-- ==== Sys2Proof/Word.lean ====
section
/-! DEFINITION. The widths of spec/00_scope.md R8 and R9: every value is unsigned. -/

namespace Sys2Proof

/-- `u8`: one byte of a stream, a frame or a buffer (R8, R9). -/
abbrev Byte := BitVec 8

/-- `u16`: a checksum, a register of the sensor, an operand of a command (R8, R9). -/
abbrev Half := BitVec 16

/-- `u32`: a value carried by two consecutive registers (R9, R48). -/
abbrev Long := BitVec 32

/-- The 20-bit command word of the command port (R60). -/
abbrev CommandWord := BitVec 20

end Sys2Proof
end

