-- ==== Sys2Proof/Syntax.lean ====
section
/-! DEFINITION. The instructions: one constructor per row of spec/opcode_table.json.
The first eight rows are command words of the command port (30_encoding.md R60, R61, R63); the last five are the
internal functions of the block, which have operands and a result but no command word (format INTERNAL). -/

namespace Sys2Proof

/-- The five operations (R61), the type of the latch `op` (10_state.md R20, R23). -/
inductive Op where
  | read
  | setaddr
  | rste
  | setthr
  | getthr
  deriving DecidableEq, Repr

/-- The rows of spec/opcode_table.json. A command carries `tmo` (bit 19) and `arg` (bits 15:0), also where `arg` is
ignored (R62), so that no bit of a word is lost. -/
inductive Instr where
  /-- `READ`: read the measurement block (R155) -/
  | read (tmo : Bool) (arg : Half)
  /-- `SETADDR`: set the device address to `arg` (R161) -/
  | setaddr (tmo : Bool) (arg : Half)
  /-- `RSTE`: reset the sensor's energy accumulator (R165) -/
  | rste (tmo : Bool) (arg : Half)
  /-- `SETTHR`: set the alarm threshold to `arg` watts (R168) -/
  | setthr (tmo : Bool) (arg : Half)
  /-- `GETTHR`: get the alarm threshold (R171) -/
  | getthr (tmo : Bool) (arg : Half)
  /-- `RESERVED5`: operation code 5, which spells no operation (R63) -/
  | reserved5 (tmo : Bool) (arg : Half)
  /-- `RESERVED6`: operation code 6 (R63) -/
  | reserved6 (tmo : Bool) (arg : Half)
  /-- `RESERVED7`: operation code 7 (R63) -/
  | reserved7 (tmo : Bool) (arg : Half)
  /-- `CRC_COMPUTE` of the sequence `s` (R93) -/
  | crcCompute (s : List Byte)
  /-- `CRC_VERIFY` of the sequence `f` with its trailing checksum (R94) -/
  | crcVerify (f : List Byte)
  /-- `FRAME_ENCODE` of address `a`, function code `fc` and payload `p` (R100) -/
  | frameEncode (a fc : Byte) (p : List Byte)
  /-- `FRAME_VALIDATE` of the response `r`, expected length `n`, against address `a` (R102) -/
  | frameValidate (r : List Byte) (n : Byte) (a : Byte)
  /-- `DECODE_MEAS` of the READ response `r` (R152) -/
  | decodeMeas (r : List Byte)
  deriving DecidableEq, Repr

end Sys2Proof
end

