-- ==== Sys2Proof/WellFormed.lean ====
section
/-! DEFINITION. Which instructions are well formed: the one operand restriction the spec puts on an instruction as such.
An illegal SETADDR operand is not one of these: it is a legal command word that ends in InvalidArgument
(30_encoding.md R75 (b)). -/

namespace Sys2Proof

/-- DECODE_MEAS takes "a 25-byte response" (43_operations.md R152); every other operand is free. -/
def Instr.wellFormed : Instr → Bool
  | .read _ _ => true
  | .setaddr _ _ => true
  | .rste _ _ => true
  | .setthr _ _ => true
  | .getthr _ _ => true
  | .reserved5 _ _ => true
  | .reserved6 _ _ => true
  | .reserved7 _ _ => true
  | .crcCompute _ => true
  | .crcVerify _ => true
  | .frameEncode _ _ _ => true
  | .frameValidate _ _ _ => true
  | .decodeMeas r => r.length == 25

end Sys2Proof
end

