-- ==== Sys2Proof/Decode.lean ====
section
/-! DEFINITION. The command word of the command port (spec/30_encoding.md R60 to R63): its decoder, its encoder, and the
instruction read from a word numbered as spec/opcode_table.json numbers it. The engine fetches no instructions
(20_memory.md R49): a word is a value on the port, not bytes of a memory. -/

namespace Sys2Proof

/-- Why a number is no command word. -/
inductive DecodeError where
  /-- it needs more than the 20 bits of R60 -/
  | tooWide
  deriving DecidableEq, Repr

/-- `cmd[19]` = `tmo` (R60). -/
def tmoField (w : CommandWord) : Bool := w.getLsbD 19

/-- `cmd[18:16]` = `op` (R60). -/
def opField (w : CommandWord) : BitVec 3 := w.extractLsb' 16 3

/-- `cmd[15:0]` = `arg` (R60). -/
def argField (w : CommandWord) : Half := w.extractLsb' 0 16

/-- The operation codes 0 to 7, from bits 18, 17 and 16 (R61, R63). -/
def decodeCommand (w : CommandWord) : Instr :=
  match w.getLsbD 18, w.getLsbD 17, w.getLsbD 16 with
  | false, false, false => .read (tmoField w) (argField w)
  | false, false, true => .setaddr (tmoField w) (argField w)
  | false, true, false => .rste (tmoField w) (argField w)
  | false, true, true => .setthr (tmoField w) (argField w)
  | true, false, false => .getthr (tmoField w) (argField w)
  | true, false, true => .reserved5 (tmoField w) (argField w)
  | true, true, false => .reserved6 (tmoField w) (argField w)
  | true, true, true => .reserved7 (tmoField w) (argField w)

/-- Decoding of any number: a number of more than 20 bits is rejected by name. -/
def decodeWord (w : Nat) : Except DecodeError Instr :=
  if w < 2 ^ 20 then .ok (decodeCommand (BitVec.ofNat 20 w)) else .error .tooWide

/-- The instruction of a word of `nbits` table bits (the host's fixed name). A row the table gives no bits (an internal
function) has no command word; bits above `nbits` are zero. -/
def decodeTableWord (nbits w : Nat) : Option Instr :=
  if nbits = 0 then none else
    match decodeWord w with
    | .ok i => some i
    | .error _ => none

/-- The fields of R60 put together: `tmo` in bit 19, `op` in bits 18:16, `arg` in bits 15:0. -/
def commandWord (tmo : Bool) (op : BitVec 3) (arg : Half) : CommandWord :=
  ((BitVec.ofBool tmo).setWidth 20 <<< 19) ||| (op.setWidth 20 <<< 16) ||| arg.setWidth 20

/-- The code of an operation (R61). -/
def Op.code : Op → BitVec 3
  | .read => 0
  | .setaddr => 1
  | .rste => 2
  | .setthr => 3
  | .getthr => 4

/-- The command word of an instruction (R60, R61, R63); an internal function has none. -/
def encode : Instr → Option CommandWord
  | .read tmo arg => some (commandWord tmo Op.read.code arg)
  | .setaddr tmo arg => some (commandWord tmo Op.setaddr.code arg)
  | .rste tmo arg => some (commandWord tmo Op.rste.code arg)
  | .setthr tmo arg => some (commandWord tmo Op.setthr.code arg)
  | .getthr tmo arg => some (commandWord tmo Op.getthr.code arg)
  | .reserved5 tmo arg => some (commandWord tmo 5 arg)
  | .reserved6 tmo arg => some (commandWord tmo 6 arg)
  | .reserved7 tmo arg => some (commandWord tmo 7 arg)
  | .crcCompute _ => none
  | .crcVerify _ => none
  | .frameEncode _ _ _ => none
  | .frameValidate _ _ _ => none
  | .decodeMeas _ => none

end Sys2Proof
end

