-- ==== Sys2Proof/Config.lean ====
section
/-! DEFINITION. What is fixed for one engine: the configuration record `Cfg` of spec/00_scope.md R7,
the kinds of answers the environment gives (20_memory.md R41, R42), and the free values.
DESIGN CHOICE (log entry 8): a machine's `Cfg` is a field of `State` that no step writes, so a statement about
every state is a statement about every configuration. -/

namespace Sys2Proof

/-- Order of the two registers of a 32-bit value on the wire (R7, R48). -/
inductive WordOrder where
  | lowWordFirst
  | highWordFirst
  deriving DecidableEq, Repr, Inhabited

/-- Which of the two checks of a response reports when both fail (R7, R107). -/
inductive CheckOrder where
  | crcFirst
  | addrFirst
  deriving DecidableEq, Repr, Inhabited

/-- The configuration record of R7. -/
structure Cfg where
  /-- `CRC_SEED` -/
  crcSeed : Half
  /-- `CRC_POLY`, reflected form -/
  crcPoly : Half
  /-- `ADDR_GENERAL` -/
  addrGeneral : Byte
  /-- `ADDR_MIN` -/
  addrMin : Byte
  /-- `ADDR_MAX` -/
  addrMax : Byte
  /-- `RESET_ADDR` -/
  resetAddr : Byte
  /-- `FC_READ_INPUT` -/
  fcReadInput : Byte
  /-- `FC_READ_HOLDING` -/
  fcReadHolding : Byte
  /-- `FC_WRITE_SINGLE` -/
  fcWriteSingle : Byte
  /-- `FC_RESET_ENERGY` -/
  fcResetEnergy : Byte
  /-- `REG_MEAS_START` -/
  regMeasStart : Half
  /-- `REG_MEAS_COUNT` -/
  regMeasCount : Half
  /-- `REG_THRESHOLD` -/
  regThreshold : Half
  /-- `REG_ADDRESS` -/
  regAddress : Half
  /-- `WORD_ORDER_32` -/
  wordOrder32 : WordOrder
  /-- `CHECK_ORDER` -/
  checkOrder : CheckOrder
  deriving DecidableEq, Repr

/-- The values R7 adopts. -/
def Cfg.default : Cfg where
  crcSeed := 0xFFFF
  crcPoly := 0xA001
  addrGeneral := 0xF8
  addrMin := 0x01
  addrMax := 0xF7
  resetAddr := 0xF8
  fcReadInput := 0x04
  fcReadHolding := 0x03
  fcWriteSingle := 0x06
  fcResetEnergy := 0x42
  regMeasStart := 0x0000
  regMeasCount := 0x000A
  regThreshold := 0x0001
  regAddress := 0x0002
  wordOrder32 := .lowWordFirst
  checkOrder := .crcFirst

/-- `TX_MAX` (R7): derived from the request formats, hence no parameter (log entry 8). -/
def Config.txMax : Nat := 8

/-- `RX_MAX` (R7): derived from the response formats, hence no parameter (log entry 8). -/
def Config.rxMax : Nat := 25

/-- What the transport does with a `TxWrite` (R41): it answers `WOk` or `WErr`, or it breaks its duty to return (R135,
R195; log entry 21). -/
inductive WriteAnswer where
  /-- `WOk` -/
  | ok
  /-- `WErr` -/
  | err
  /-- no answer: the write never returns -/
  | never
  deriving DecidableEq, Repr, Inhabited

/-- The transport's answer to `RxPoll` (R42): `Byte(b)`, `WouldBlock` or `RErr`. -/
inductive PollAnswer where
  | byte (b : Byte)
  | wouldBlock
  | err
  deriving DecidableEq, Repr, Inhabited

/-- FREE VALUE (log entry 2): the answer to the write that takes draw `n`, where State scripts none (R41: a draw). -/
opaque Config.freeWrite : Nat → WriteAnswer

/-- FREE VALUE (log entry 2): the answer to the poll that takes draw `n`, where State scripts none (R42: a draw). -/
opaque Config.freePoll : Nat → PollAnswer

/-- FREE VALUE (log entry 2): the answer to the timer query that takes draw `n`, where State scripts none (R129: a draw). -/
opaque Config.freeElapsed : Nat → Bool

/-- FREE VALUE (log entry 10): whether an EMPTY response passes the address check against `a`. R102 and R104 compare
`r[0]`, which an empty sequence does not have; the engine itself never validates one (R103). -/
opaque Config.freeAddrOk : Byte → Bool

end Sys2Proof
end

