-- ==== Sys2Proof/Machine/State.lean ====
section
/-! DEFINITION. The state of the machine as plain data: the engine's record of spec/10_state.md R20, the engine's
configuration, the environment's coming answers, and two fields of the model's own; and the state after reset
(70_reset_and_hazards.md R210). -/

namespace Sys2Proof.Machine

/-- The states of the sequencer (R20 to R22). -/
inductive Fsm where
  | idle
  | sending
  | receiving
  | complete
  | failed
  deriving DecidableEq, Repr

/-- The six error kinds, all there are (60_exceptions.md R180). -/
inductive ErrKind where
  | transportWrite
  | transportRead
  | timeout
  | checksumMismatch
  | unexpectedResponse
  | invalidArgument
  deriving DecidableEq, Repr

/-- What `result` holds: the outcome of the latest operation, or `NONE` before the first (R28, R181). -/
inductive Result where
  | ok
  | error (k : ErrKind)
  | none
  deriving DecidableEq, Repr

/-- The seven measurement output registers (R29), raw values. -/
structure Measurement where
  /-- `meas_v` -/
  v : Half
  /-- `meas_i` -/
  i : Long
  /-- `meas_p` -/
  p : Long
  /-- `meas_e` -/
  e : Long
  /-- `meas_f` -/
  f : Half
  /-- `meas_pf` -/
  pf : Half
  /-- `meas_alarm` -/
  alarm : Bool
  deriving DecidableEq, Repr

/-- The all-zero record (R210). -/
def Measurement.zero : Measurement := ⟨0, 0, 0, 0, 0, 0, false⟩

/-- The value of FRAME_VALIDATE: `VOk` or `VErr(K)` (R102). -/
inductive Verdict where
  | ok
  | err (k : ErrKind)
  deriving DecidableEq, Repr

/-- What an internal function returned (log entry 9). -/
inductive FnResult where
  /-- no internal function was run alone yet -/
  | none
  /-- CRC_COMPUTE (R93) -/
  | crc (c : Half)
  /-- CRC_VERIFY (R94) -/
  | verified (b : Bool)
  /-- FRAME_ENCODE (R100) -/
  | frame (f : List Byte)
  /-- FRAME_VALIDATE (R102) -/
  | verdict (v : Verdict)
  /-- DECODE_MEAS (R152) -/
  | meas (m : Measurement)
  deriving DecidableEq, Repr

/-- What the caller does at its next chance (log entry 3). -/
inductive CallerEvent where
  /-- a command word offered now, whatever the engine's state (R121, R188) -/
  | offer (w : CommandWord)
  /-- a command word the caller holds back until the engine is in IDLE, as R227 asks of it -/
  | offerIdle (w : CommandWord)
  /-- nothing is offered for one step -/
  | pause
  /-- the engine is reset (R212) -/
  | reset
  deriving DecidableEq, Repr

/-- The machine. The fields `fsm` to `busyFault` are the engine's record `S` of R20. -/
structure State where
  /-- the configuration record of R7; no step writes it (log entry 8) -/
  cfg : Cfg
  fsm : Fsm
  op : Op
  arg : Half
  tmo : Bool
  devAddr : Byte
  /-- the bytes of `tx_buf` that hold a value (R25; log entry 7) -/
  txBuf : List Byte
  txLen : Nat
  txIdx : Nat
  /-- the bytes of `rx_buf` that hold a value (R26; log entry 7) -/
  rxBuf : List Byte
  rxLen : Nat
  rxCnt : Nat
  err : ErrKind
  result : Result
  /-- `meas_v`, `meas_i`, `meas_p`, `meas_e`, `meas_f`, `meas_pf`, `meas_alarm` -/
  meas : Measurement
  thrOut : Half
  busyFault : Bool
  /-- the caller's coming events, next first (R60; log entry 3) -/
  port : List CallerEvent
  /-- the transport's coming answers to `TxWrite`, next first (R41; log entry 2) -/
  writes : List WriteAnswer
  /-- the transport's coming answers to `RxPoll`, next first: the bytes it holds are among them (R42, R45; log entry 2) -/
  polls : List PollAnswer
  /-- the timer's coming answers to `Elapsed`, next first (R129; log entry 2) -/
  timer : List Bool
  /-- whether the transport is inside a `TxWrite` that never returns (R135, R195: no state of the engine; log entry 21) -/
  writeStuck : Bool
  /-- the transmit stream: the bytes put on the line, oldest first (R40, R51; log entry 14) -/
  line : List Byte
  /-- how many `TimerStart()` events were emitted (R122; log entry 14) -/
  timerStarts : Nat
  /-- the MODEL's own: how many free draws were taken (log entry 2) -/
  draws : Nat
  /-- the MODEL's own: what the latest internal function returned (log entry 9) -/
  fnResult : FnResult
  deriving DecidableEq, Repr

/-- Why the machine stops, or why a run supports no claim. All are SAFE: the first three arise only where the spec gives
no effect, and no run from reset meets the first and the third; no step raises the fourth. -/
inductive Fault where
  /-- Raised by a SEND, POLL, VALIDATE or REPORT step that would use a buffer byte that holds no value
  (10_state.md R26, R43: "a model should treat a read of one as a fault"). SAFE. -/
  | unspecifiedByte
  /-- Raised by DECODE_MEAS run alone on a sequence that is not 25 bytes long (R152; log entry 11). SAFE. -/
  | operandLength
  /-- Raised by the engine's step in RECEIVING with `rx_cnt > rx_len`, where R134 enables no step (log
  entry 20). SAFE. -/
  | noStepEnabled
  /-- Raised at the end of a run by `State.settled`, where `busy_fault` is set: "A model treats a set `busy_fault` as a
  fault" (60_exceptions.md R188). No step raises it: "the engine's own transaction continues unaffected". SAFE. -/
  | busyFault
  deriving DecidableEq, Repr

/-- Why the model gives no meaning. Both of the spec's own are SAFE: the run is marked refused and nothing is provable
of what follows. -/
inductive Refusal where
  /-- Raised by `exec` alone, for an instruction whose meaning is not written. SAFE. -/
  | notModelled (mnemonic : String)
  /-- Raised by RESERVED5, RESERVED6 and RESERVED7: "A model refuses them" (30_encoding.md R63). SAFE. -/
  | reservedOp (code : BitVec 3)
  /-- Raised by reset with a `Cfg.RESET_ADDR` that is neither general nor legal (70_reset_and_hazards.md R211: "a
  configuration with another value is refused"). SAFE. -/
  | illegalResetAddr
  deriving DecidableEq, Repr

/-- The machine right after reset under a configuration (R210), with an environment that has announced nothing.
`op`, `arg`, `tmo`, `err`, `tx_len`, `tx_idx`, `rx_len` and `rx_cnt` are "unspecified" in R210: the values here are
named in log entry 6 (DESIGN CHOICE, unsafe) and no step reads them. -/
def State.resetWith (cfg : Cfg) : State where
  cfg := cfg
  fsm := .idle
  op := .read
  arg := 0
  tmo := false
  devAddr := cfg.resetAddr
  txBuf := []
  txLen := 0
  txIdx := 0
  rxBuf := []
  rxLen := 0
  rxCnt := 0
  err := .transportWrite
  result := .none
  meas := .zero
  thrOut := 0
  busyFault := false
  port := []
  writes := []
  polls := []
  timer := []
  writeStuck := false
  line := []
  timerStarts := 0
  draws := 0
  fnResult := .none

/-- The machine right after reset (R210) under the configuration R7 adopts. -/
def State.reset : State := State.resetWith Cfg.default

end Sys2Proof.Machine
end

