-- ==== Sys2Proof/Machine/Operands.lean ====
section
/-! DEFINITION. Operand forms: byte pairs and their orders (spec/00_scope.md R10, 20_memory.md R46 to R48), the legal
device addresses (43_operations.md R160), and the operand values of a request (30_encoding.md R62, R72). -/

namespace Sys2Proof.Machine

/-- `be16(x, y)`: the first byte is the high byte (R10, R47). -/
def be16 (x y : Byte) : Half := (x.setWidth 16 <<< 8) ||| y.setWidth 16

/-- `le16(x, y)`: the first byte is the low byte (R10, R46). -/
def le16 (x y : Byte) : Half := (y.setWidth 16 <<< 8) ||| x.setWidth 16

/-- `v[7:0]` (R9). -/
def lowByte (v : Half) : Byte := v.extractLsb' 0 8

/-- `v[15:8]` (R9). -/
def highByte (v : Half) : Byte := v.extractLsb' 8 8

/-- A u16 emitted big-endian (R10, R47, R72). -/
def beBytes (v : Half) : List Byte := [highByte v, lowByte v]

/-- A u16 emitted little-endian (R10, R46). -/
def leBytes (v : Half) : List Byte := [lowByte v, highByte v]

/-- `(zext_32(high) << 16) | zext_32(low)` (R48). -/
def joinWords (high low : Half) : Long := (high.setWidth 32 <<< 16) ||| low.setWidth 32

/-- `W32(c0, c1, c2, c3)` (R48, R152). -/
def w32 (order : WordOrder) (c0 c1 c2 c3 : Byte) : Long :=
  match order with
  | .lowWordFirst => joinWords (be16 c2 c3) (be16 c0 c1)
  | .highWordFirst => joinWords (be16 c0 c1) (be16 c2 c3)

/-- The four wire bytes of a 32-bit value under an order: the layout R48 reads, written out. -/
def w32Bytes (order : WordOrder) (x : Long) : List Byte :=
  match order with
  | .lowWordFirst => beBytes (x.extractLsb' 0 16) ++ beBytes (x.extractLsb' 16 16)
  | .highWordFirst => beBytes (x.extractLsb' 16 16) ++ beBytes (x.extractLsb' 0 16)

/-- `LEGAL_ADDR(x)`: `ADDR_MIN <= x <= ADDR_MAX` on 16 bits (R160). -/
def legalAddr (cfg : Cfg) (x : Half) : Bool :=
  decide (cfg.addrMin.toNat ≤ x.toNat ∧ x.toNat ≤ cfg.addrMax.toNat)

/-- What R211 asks of `Cfg.RESET_ADDR`: the general address or a legal one. -/
def resetAddrOk (cfg : Cfg) : Bool :=
  cfg.resetAddr == cfg.addrGeneral || legalAddr cfg (cfg.resetAddr.setWidth 16)

/-- The value SETADDR writes: `zext_16(arg[7:0])` (R66, R72). -/
def addrValue (arg : Half) : Half := (lowByte arg).setWidth 16

/-- The operand check of the ACCEPT step (R121, R62): only SETADDR has one. -/
def argOk (cfg : Cfg) (op : Op) (arg : Half) : Bool :=
  match op with
  | .setaddr => legalAddr cfg arg
  | .read => true
  | .rste => true
  | .setthr => true
  | .getthr => true

/-- `tx_len` of an operation (R71). -/
def txLenOf : Op → Nat
  | .read => 8
  | .setaddr => 8
  | .rste => 4
  | .setthr => 8
  | .getthr => 8

/-- `rx_len` of an operation, a function of the operation alone (R71, R76). -/
def rxLenOf : Op → Nat
  | .read => 25
  | .setaddr => 8
  | .rste => 4
  | .setthr => 8
  | .getthr => 7

end Sys2Proof.Machine
end

