-- ==== Sys2Proof/Machine/Flags.lean ====
section
/-! DEFINITION. The status outputs. The engine has no condition codes (spec/10_state.md R32): its only status flags are
`result`, with the internal `err` behind it, and the sticky `busy_fault` (R28, R31). Their codes (60_exceptions.md R181,
10_state.md R22) and their updates. -/

namespace Sys2Proof.Machine

/-- The 4-bit code of an error kind (R181). -/
def ErrKind.code : ErrKind → BitVec 4
  | .transportWrite => 1
  | .transportRead => 2
  | .timeout => 3
  | .checksumMismatch => 4
  | .unexpectedResponse => 5
  | .invalidArgument => 6

/-- The 4-bit code of `result` (R181). -/
def Result.code : Result → BitVec 4
  | .ok => 0
  | .error k => k.code
  | .none => 15

/-- The 3-bit code of a state of the sequencer (R22). -/
def Fsm.code : Fsm → BitVec 3
  | .idle => 0
  | .sending => 1
  | .receiving => 2
  | .complete => 3
  | .failed => 4

/-- A command offered while busy: `S.busy_fault <- true` and nothing else (R188). -/
def State.raiseBusy (s : State) : State := { s with busyFault := true }

/-- The end of a run as a claim may see it: "A model treats a set `busy_fault` as a fault: no claim about a run holds
unless `busy_fault` is false at its end" (R188). -/
def State.settled (s : State) : Host.Outcome State Fault Refusal :=
  if s.busyFault then .fault .busyFault else .next s

end Sys2Proof.Machine
end

