-- ==== Sys2Proof/Machine/Ops.lean ====
section
/-! DEFINITION. The named operations over the state: the environment's answers, the two buffers, the events the engine
emits, the updates a step makes, failure entry and the report steps' common end, and reset. -/

namespace Sys2Proof.Machine

/-! ### Draws of the environment (R6, R41, R42, R129; log entry 2) -/

/-- What the transport does with one `TxWrite` (R41, R195). -/
def State.takeWrite (s : State) : WriteAnswer × State :=
  match s.writes with
  | w :: rest => (w, { s with writes := rest })
  | [] => (Config.freeWrite s.draws, { s with draws := s.draws + 1 })

/-- The answer to one `RxPoll` (R42). -/
def State.takePoll (s : State) : PollAnswer × State :=
  match s.polls with
  | p :: rest => (p, { s with polls := rest })
  | [] => (Config.freePoll s.draws, { s with draws := s.draws + 1 })

/-- The answer to one `Elapsed` query (R129). -/
def State.takeTimer (s : State) : Bool × State :=
  match s.timer with
  | t :: rest => (t, { s with timer := rest })
  | [] => (Config.freeElapsed s.draws, { s with draws := s.draws + 1 })

/-! ### Buffers (R25, R26, R43) -/

/-- `S.tx_buf[S.tx_idx]`, read only below `tx_len` and only where a byte holds a value (R43). -/
def State.txByte? (s : State) : Option Byte :=
  if s.txIdx < s.txLen then s.txBuf[s.txIdx]? else none

/-- `S.rx_buf[0..n]`, read only below `rx_cnt` and only where every byte holds a value (R26, R43). -/
def State.rxBytes? (s : State) (n : Nat) : Option (List Byte) :=
  if n ≤ s.rxCnt ∧ n ≤ s.rxBuf.length then some (s.rxBuf.take n) else none

/-- `S.rx_buf[S.rx_cnt] <- b; S.rx_cnt <- S.rx_cnt + 1` (R125). A byte beyond the buffer's 25, or beyond one that holds
no value, does not exist (R26). -/
def State.storeRx? (s : State) (b : Byte) : Option State :=
  if s.rxCnt < Config.rxMax ∧ s.rxCnt ≤ s.rxBuf.length then
    some { s with rxBuf := s.rxBuf.take s.rxCnt ++ [b], rxCnt := s.rxCnt + 1 }
  else none

/-! ### Updates of the engine's record -/

/-- `goto Q` (R11). -/
def State.enter (s : State) (q : Fsm) : State := { s with fsm := q }

/-- The caller's remaining events. -/
def State.setPort (s : State) (es : List CallerEvent) : State := { s with port := es }

/-- The latch of the accepted command (R23, R121). -/
def State.latch (s : State) (op : Op) (tmo : Bool) (arg : Half) : State :=
  { s with op := op, arg := arg, tmo := tmo }

/-- The request frame `f` whole in `tx_buf`, and the expected length `n` (R121). With `rx_cnt` 0 no byte of `rx_buf`
holds a value (R26). -/
def State.load (s : State) (f : List Byte) (n : Nat) : State :=
  { s with txBuf := f, txLen := f.length, txIdx := 0, rxBuf := [], rxLen := n, rxCnt := 0 }

/-- `TimerStart()` (R122). -/
def State.startTimer (s : State) : State := { s with timerStarts := s.timerStarts + 1 }

/-- One byte taken by the transport: it is on the line (R51) and the index advances (R123). -/
def State.sent (s : State) (b : Byte) : State :=
  { s with line := s.line ++ [b], txIdx := s.txIdx + 1 }

/-- The transport does not return from the write (R135): no byte is taken, no field of the engine changes, and the
engine waits in SENDING (log entry 21). -/
def State.holdWrite (s : State) : State := { s with writeStuck := true }

/-- `(S.meas_v, ..., S.meas_alarm) <- m`, all seven at once (R156). -/
def State.setMeas (s : State) (m : Measurement) : State := { s with meas := m }

/-- `S.dev_addr <- a` (R162). -/
def State.setDevAddr (s : State) (a : Byte) : State := { s with devAddr := a }

/-- `S.thr_out <- t` (R172). -/
def State.setThr (s : State) (t : Half) : State := { s with thrOut := t }

/-- The value an internal function hands back (log entry 9). -/
def State.returned (s : State) (r : FnResult) : State := { s with fnResult := r }

/-! ### Failure entry and the end of a report step -/

/-- `fail(K)`: saves the kind and moves to FAILED, writing nothing else (R11, R131, R184). -/
def State.fail (s : State) (k : ErrKind) : State := { s with fsm := .failed, err := k }

/-- The common end of both REPORT steps (R132, R133): the result is posted, the buffers are discarded (R27), IDLE. -/
def State.report (s : State) (r : Result) : State :=
  { s with result := r, rxCnt := 0, txBuf := [], rxBuf := [], fsm := .idle }

/-- Failure return: the REPORT step from FAILED (R133, R185). -/
def State.reportFailed (s : State) : State := s.report (.error s.err)

/-! ### Reset (R210 to R212) -/

/-- The engine's record as R210 leaves it; the configuration, the environment and the model's own fields stay (R212).
A write the abandoned transaction was stuck in is abandoned with it (log entry 21). -/
def State.resetEngine (s : State) : State :=
  { State.resetWith s.cfg with
    port := s.port
    writes := s.writes
    polls := s.polls
    timer := s.timer
    line := s.line
    timerStarts := s.timerStarts
    draws := s.draws
    fnResult := s.fnResult }

/-- Reset applied to the engine; an illegal reset address is refused (R211). -/
def applyReset (s : State) : Host.Outcome State Fault Refusal :=
  if resetAddrOk s.cfg then .next s.resetEngine else .refused .illegalResetAddr

end Sys2Proof.Machine
end

