-- ==== Sys2Proof/Machine/Checksum.lean ====
section
/-! DEFINITION. The CRC-16 Modbus generator (spec/40_checksum.md): the bit loop of R91, its table-driven form (R92),
CRC_APPEND (R95), and the meanings of CRC_COMPUTE (R93) and CRC_VERIFY (R94). -/

namespace Sys2Proof.Machine

/-- One shift of the inner loop: an exclusive-or with the polynomial when the bit shifted out was 1 (R91). -/
def crcShift (poly crc : Half) : Half :=
  if crc.getLsbD 0 then (crc >>> 1) ^^^ poly else crc >>> 1

/-- `repeat n times` the shift (R91). -/
def crcShifts (poly : Half) : Nat → Half → Half
  | 0, crc => crc
  | n + 1, crc => crcShifts poly n (crcShift poly crc)

/-- One byte folded in: the exclusive-or into the low end, then eight shifts (R91). -/
def crcByte (poly crc : Half) (b : Byte) : Half := crcShifts poly 8 (crc ^^^ b.setWidth 16)

/-- `CRC16(s)` (R90, R91). -/
def crc16 (cfg : Cfg) (s : List Byte) : Half := s.foldl (crcByte cfg.crcPoly) cfg.crcSeed

/-- `T[k]`: the inner loop started from `zext_16(k)` (R92). -/
def crcTable (poly : Half) (k : Byte) : Half := crcShifts poly 8 (k.setWidth 16)

/-- The table-driven update of one byte (R92). -/
def crcByteByTable (poly crc : Half) (b : Byte) : Half :=
  (crc >>> 8) ^^^ crcTable poly (lowByte (crc ^^^ b.setWidth 16))

/-- The table-driven computation (R92). -/
def crc16ByTable (cfg : Cfg) (s : List Byte) : Half := s.foldl (crcByteByTable cfg.crcPoly) cfg.crcSeed

/-- `CRC_APPEND(s)`: the checksum after the bytes, low byte first (R95, R46). -/
def crcAppend (cfg : Cfg) (s : List Byte) : List Byte := s ++ leBytes (crc16 cfg s)

/-- `CRC_VERIFY(f)` (R94): false below two bytes, else the checksum of all but the last two bytes against those two. -/
def crcVerify (cfg : Cfg) (f : List Byte) : Bool :=
  if f.length < 2 then false
  else
    match f.drop (f.length - 2) with
    | [lo, hi] => crc16 cfg (f.take (f.length - 2)) == le16 lo hi
    | _ => false

/-- CRC_COMPUTE (R93): the value is returned, no state of the engine is written. -/
def execCrcCompute (b : List Byte) (s : State) : Host.Outcome State Fault Refusal :=
  .next (s.returned (.crc (crc16 s.cfg b)))

/-- CRC_VERIFY (R94): the value is returned, no state of the engine is written. -/
def execCrcVerify (f : List Byte) (s : State) : Host.Outcome State Fault Refusal :=
  .next (s.returned (.verified (crcVerify s.cfg f)))

end Sys2Proof.Machine
end

