-- ==== Sys2Proof/Machine/FrameCodec.lean ====
section
/-! DEFINITION. The frame codec (spec/41_frame_codec.md): FRAME_ENCODE (R100), the request of each operation (R101), the
response formats (30_encoding.md R68 to R70), FRAME_VALIDATE (R102 to R107). -/

namespace Sys2Proof.Machine

/-- `FRAME_ENCODE(a, fc, p)`: address, function code, payload, checksum low byte first (R100). -/
def frameEncode (cfg : Cfg) (a fc : Byte) (p : List Byte) : List Byte := crcAppend cfg (a :: fc :: p)

/-- A `REQ_RD` request: start register and count, big-endian (R65). -/
def reqRd (cfg : Cfg) (a fc : Byte) (start count : Half) : List Byte :=
  frameEncode cfg a fc (beBytes start ++ beBytes count)

/-- A `REQ_WR` request: register and value, big-endian (R66). -/
def reqWr (cfg : Cfg) (a : Byte) (reg value : Half) : List Byte :=
  frameEncode cfg a cfg.fcWriteSingle (beBytes reg ++ beBytes value)

/-- A `REQ_CMD` request: an empty payload (R67). -/
def reqCmd (cfg : Cfg) (a fc : Byte) : List Byte := frameEncode cfg a fc []

/-- `REQUEST(READ, arg, a)` (R101, R155). -/
def requestRead (cfg : Cfg) (a : Byte) : List Byte :=
  reqRd cfg a cfg.fcReadInput cfg.regMeasStart cfg.regMeasCount

/-- `REQUEST(SETADDR, arg, a)` (R101, R161). -/
def requestSetaddr (cfg : Cfg) (arg : Half) (a : Byte) : List Byte :=
  reqWr cfg a cfg.regAddress (addrValue arg)

/-- `REQUEST(RSTE, arg, a)` (R101, R165). -/
def requestRste (cfg : Cfg) (a : Byte) : List Byte := reqCmd cfg a cfg.fcResetEnergy

/-- `REQUEST(SETTHR, arg, a)` (R101, R168). -/
def requestSetthr (cfg : Cfg) (arg : Half) (a : Byte) : List Byte := reqWr cfg a cfg.regThreshold arg

/-- `REQUEST(GETTHR, arg, a)` (R101, R171). -/
def requestGetthr (cfg : Cfg) (a : Byte) : List Byte :=
  reqRd cfg a cfg.fcReadHolding cfg.regThreshold 1

/-- `REQUEST(op, arg, a)` (R101). -/
def request (cfg : Cfg) (op : Op) (arg : Half) (a : Byte) : List Byte :=
  match op with
  | .read => requestRead cfg a
  | .setaddr => requestSetaddr cfg arg a
  | .rste => requestRste cfg a
  | .setthr => requestSetthr cfg arg a
  | .getthr => requestGetthr cfg a

/-- A well-formed `RSP_RD` response: byte count `2N`, then `N` big-endian registers (R68). The engine itself builds no
response; this is the format a device follows. -/
def rspRd (cfg : Cfg) (a fc : Byte) (regs : List Half) : List Byte :=
  frameEncode cfg a fc (BitVec.ofNat 8 (2 * regs.length) :: regs.flatMap beBytes)

/-- A well-formed `RSP_WR` response: the layout of `REQ_WR` (R69). -/
def rspWr (cfg : Cfg) (a fc : Byte) (reg value : Half) : List Byte :=
  frameEncode cfg a fc (beBytes reg ++ beBytes value)

/-- A well-formed `RSP_CMD` response (R70). -/
def rspCmd (cfg : Cfg) (a fc : Byte) : List Byte := frameEncode cfg a fc []

/-- Check (b): not made for a request sent to the general address, else `r[0] = a` (R104). An empty `r` has no first
byte: a free value (log entry 10). -/
def addrOk (cfg : Cfg) (r : List Byte) (a : Byte) : Bool :=
  a == cfg.addrGeneral ||
    match r with
    | [] => Config.freeAddrOk a
    | b :: _ => b == a

/-- Checks (c) and (b) in the order `Cfg.CHECK_ORDER` gives (R102, R107). -/
def checksVerdict (order : CheckOrder) (crcOk addrOk : Bool) : Verdict :=
  match order with
  | .crcFirst =>
    if !crcOk then .err .checksumMismatch
    else if !addrOk then .err .unexpectedResponse
    else .ok
  | .addrFirst =>
    if !addrOk then .err .unexpectedResponse
    else if !crcOk then .err .checksumMismatch
    else .ok

/-- `FRAME_VALIDATE(r, n, a)`: the length first (R103), then the other two checks (R102). The function code, the byte
count and the echoed fields are not checked (R106). -/
def frameValidate (cfg : Cfg) (r : List Byte) (n : Nat) (a : Byte) : Verdict :=
  if r.length ≠ n then .err .unexpectedResponse
  else checksVerdict cfg.checkOrder (crcVerify cfg r) (addrOk cfg r a)

/-- FRAME_ENCODE (R100): the frame is returned, no state of the engine is written. -/
def execFrameEncode (a fc : Byte) (p : List Byte) (s : State) : Host.Outcome State Fault Refusal :=
  .next (s.returned (.frame (frameEncode s.cfg a fc p)))

/-- FRAME_VALIDATE (R102): the verdict is returned, no state of the engine is written. -/
def execFrameValidate (r : List Byte) (n a : Byte) (s : State) : Host.Outcome State Fault Refusal :=
  .next (s.returned (.verdict (frameValidate s.cfg r n.toNat a)))

end Sys2Proof.Machine
end

