-- ==== Sys2Proof/Machine/Payload.lean ====
section
/-! DEFINITION. The register payload decoder (spec/43_operations.md R150 to R154, 30_encoding.md R73) and the exact
quantities the output registers stand for (R151). -/

namespace Sys2Proof.Machine

/-- `DECODE_MEAS(r)` on exactly 25 bytes (R152, R153): bytes 0 to 2 and the checksum are not read. -/
def decodeMeas? (cfg : Cfg) : List Byte → Option Measurement
  | [_, _, _, v0, v1, i0, i1, i2, i3, p0, p1, p2, p3, e0, e1, e2, e3, f0, f1, pf0, pf1, al0, al1, _, _] =>
    some {
      v := be16 v0 v1
      i := w32 cfg.wordOrder32 i0 i1 i2 i3
      p := w32 cfg.wordOrder32 p0 p1 p2 p3
      e := w32 cfg.wordOrder32 e0 e1 e2 e3
      f := be16 f0 f1
      pf := be16 pf0 pf1
      alarm := be16 al0 al1 != 0 }
  | _ => none

/-- `DECODE_THR(r)` on exactly 7 bytes (R154). -/
def decodeThr? : List Byte → Option Half
  | [_, _, _, hi, lo, _, _] => some (be16 hi lo)
  | _ => none

/-- The 20 payload bytes a sensor sends for raw values and an alarm word: the layout of R150 written out. -/
def measPayload (order : WordOrder) (m : Measurement) (alarmWord : Half) : List Byte :=
  beBytes m.v ++ w32Bytes order m.i ++ w32Bytes order m.p ++ w32Bytes order m.e ++ beBytes m.f ++ beBytes m.pf ++
    beBytes alarmWord

/-! ### Exact quantities (R151), rational and unrounded -/

/-- Volts. -/
def Measurement.volts (m : Measurement) : Rat := (m.v.toNat : Rat) / 10

/-- Amperes. -/
def Measurement.amps (m : Measurement) : Rat := (m.i.toNat : Rat) / 1000

/-- Watts. -/
def Measurement.watts (m : Measurement) : Rat := (m.p.toNat : Rat) / 10

/-- Watt-hours. -/
def Measurement.wattHours (m : Measurement) : Rat := (m.e.toNat : Rat)

/-- Kilowatt-hours, the caller-facing energy (90_conflicts.md C2). -/
def Measurement.kiloWattHours (m : Measurement) : Rat := (m.e.toNat : Rat) / 1000

/-- Hertz. -/
def Measurement.hertz (m : Measurement) : Rat := (m.f.toNat : Rat) / 10

/-- The power factor, unitless. -/
def Measurement.powerFactor (m : Measurement) : Rat := (m.pf.toNat : Rat) / 100

/-- DECODE_MEAS (R152): the seven values are returned, no state of the engine is written. Its operand is a 25-byte
response; on any other length there is nothing to read and it faults (log entry 11). -/
def execDecodeMeas (r : List Byte) (s : State) : Host.Outcome State Fault Refusal :=
  match decodeMeas? s.cfg r with
  | some m => .next (s.returned (.meas m))
  | none => .fault .operandLength

end Sys2Proof.Machine
end

