-- ==== Sys2Proof/Machine/Transaction.lean ====
section
/-! DEFINITION. The transaction engine (spec/42_transaction.md): the ACCEPT, SEND, POLL, VALIDATE and REPORT steps, the
commit of each operation (43_operations.md), and the step the engine takes by itself in each state (R134). -/

namespace Sys2Proof.Machine

/-- The ACCEPT step of a command, in IDLE (R121, R122); in any other state the command is not accepted and `busy_fault`
is set (60_exceptions.md R188). -/
def accept (op : Op) (tmo : Bool) (arg : Half) (s : State) : Host.Outcome State Fault Refusal :=
  match s.fsm with
  | .idle =>
    let latched := s.latch op tmo arg
    if argOk s.cfg op arg then
      let loaded := latched.load (request s.cfg op arg s.devAddr) (rxLenOf op)
      .next ((if tmo then loaded.startTimer else loaded).enter .sending)
    else .next (latched.fail .invalidArgument)
  | .sending => .next s.raiseBusy
  | .receiving => .next s.raiseBusy
  | .complete => .next s.raiseBusy
  | .failed => .next s.raiseBusy

/-- The SEND step (R123): one byte offered to the transport; the last one taken leads to RECEIVING. A write that never
returns leaves the engine where it is (R135). -/
def send (s : State) : Host.Outcome State Fault Refusal :=
  match s.txByte? with
  | none => .fault .unspecifiedByte
  | some b =>
    match s.takeWrite with
    | (.err, s1) => .next (s1.fail .transportWrite)
    | (.never, s1) => .next s1.holdWrite
    | (.ok, s1) =>
      let s2 := s1.sent b
      .next (if s2.txIdx = s2.txLen then s2.enter .receiving else s2)

/-- The POLL step (R125, R128): the timer is asked only after a would-block answer and only with `tmo`. -/
def poll (s : State) : Host.Outcome State Fault Refusal :=
  match s.takePoll with
  | (.byte b, s1) =>
    match s1.storeRx? b with
    | some s2 => .next s2
    | none => .fault .unspecifiedByte
  | (.wouldBlock, s1) =>
    if s1.tmo then
      match s1.takeTimer with
      | (true, s2) => .next (s2.fail .timeout)
      | (false, s2) => .next s2
    else .next s1
  | (.err, s1) => .next (s1.fail .transportRead)

/-- The VALIDATE step (R127). -/
def validate (s : State) : Host.Outcome State Fault Refusal :=
  match s.rxBytes? s.rxLen with
  | none => .fault .unspecifiedByte
  | some r =>
    match frameValidate s.cfg r s.rxLen s.devAddr with
    | .ok => .next (s.enter .complete)
    | .err k => .next (s.fail k)

/-! ### Commits (R132): `none` where a byte of the response holds no value -/

/-- `COMMIT(READ)` (R156). -/
def commitRead (s : State) : Option State :=
  match s.rxBytes? 25 with
  | some r =>
    match decodeMeas? s.cfg r with
    | some m => some (s.setMeas m)
    | none => none
  | none => none

/-- `COMMIT(SETADDR)` (R162). -/
def commitSetaddr (s : State) : Option State := some (s.setDevAddr (lowByte s.arg))

/-- `COMMIT(RSTE)` writes nothing (R166). -/
def commitRste (s : State) : Option State := some s

/-- `COMMIT(SETTHR)` writes nothing (R169). -/
def commitSetthr (s : State) : Option State := some s

/-- `COMMIT(GETTHR)` (R172). -/
def commitGetthr (s : State) : Option State :=
  match s.rxBytes? 7 with
  | some r =>
    match decodeThr? r with
    | some t => some (s.setThr t)
    | none => none
  | none => none

/-- `COMMIT(S.op)` (R132). -/
def commit (s : State) : Option State :=
  match s.op with
  | .read => commitRead s
  | .setaddr => commitSetaddr s
  | .rste => commitRste s
  | .setthr => commitSetthr s
  | .getthr => commitGetthr s

/-- The REPORT step from COMPLETE (R132). -/
def reportComplete (s : State) : Host.Outcome State Fault Refusal :=
  match commit s with
  | some s1 => .next (s1.report .ok)
  | none => .fault .unspecifiedByte

/-- The step the engine takes by itself, with no event of the caller (R134). IDLE is quiescent (R120; log entry 19); a
write that never returns holds it in SENDING for ever, which no timeout ends (R135, R226; log entry 21). -/
def engineStep (s : State) : Host.Outcome State Fault Refusal :=
  match s.fsm with
  | .idle => .next s
  | .sending => if s.writeStuck then .next s else send s
  | .receiving =>
    if s.rxCnt < s.rxLen then poll s
    else if s.rxCnt = s.rxLen then validate s
    else .fault .noStepEnabled
  | .complete => reportComplete s
  | .failed => .next s.reportFailed

end Sys2Proof.Machine
end

