-- ==== Sys2Proof/Machine/Commands.lean ====
section
/-! DEFINITION. The meanings of the command words (spec/43_operations.md R155, R161, R165, R168, R171; 30_encoding.md R63).
A command's own step is ACCEPT; the SEND, POLL, VALIDATE and REPORT steps that follow are the engine's own (log entry 1). -/

namespace Sys2Proof.Machine

/-- READ (R155). `arg` is ignored but latched (R62, R121; log entry 12). -/
def execRead (tmo : Bool) (arg : Half) (s : State) : Host.Outcome State Fault Refusal :=
  accept .read tmo arg s

/-- SETADDR (R161): an illegal `arg` ends in InvalidArgument with no transport access and no timer start. -/
def execSetaddr (tmo : Bool) (arg : Half) (s : State) : Host.Outcome State Fault Refusal :=
  accept .setaddr tmo arg s

/-- RSTE (R165). -/
def execRste (tmo : Bool) (arg : Half) (s : State) : Host.Outcome State Fault Refusal :=
  accept .rste tmo arg s

/-- SETTHR (R168): every `arg` is legal. -/
def execSetthr (tmo : Bool) (arg : Half) (s : State) : Host.Outcome State Fault Refusal :=
  accept .setthr tmo arg s

/-- GETTHR (R171). -/
def execGetthr (tmo : Bool) (arg : Half) (s : State) : Host.Outcome State Fault Refusal :=
  accept .getthr tmo arg s

/-- RESERVED5 (R63): "A model refuses them: the command is not accepted, no step occurs" (log entry 5). -/
def execReserved5 (_tmo : Bool) (_arg : Half) (_s : State) : Host.Outcome State Fault Refusal :=
  .refused (.reservedOp 5)

/-- RESERVED6 (R63; log entry 5). -/
def execReserved6 (_tmo : Bool) (_arg : Half) (_s : State) : Host.Outcome State Fault Refusal :=
  .refused (.reservedOp 6)

/-- RESERVED7 (R63; log entry 5). -/
def execReserved7 (_tmo : Bool) (_arg : Half) (_s : State) : Host.Outcome State Fault Refusal :=
  .refused (.reservedOp 7)

end Sys2Proof.Machine
end

