-- ==== Sys2Proof/Machine/Dispatch.lean ====
section
/-! DEFINITION. One arm per constructor of Instr. -/

namespace Sys2Proof.Machine

def exec (i : Instr) (s : State) : Host.Outcome State Fault Refusal :=
  match i with
  | .read tmo arg => Sys2Proof.Machine.execRead tmo arg s
  | .setaddr tmo arg => Sys2Proof.Machine.execSetaddr tmo arg s
  | .rste tmo arg => Sys2Proof.Machine.execRste tmo arg s
  | .setthr tmo arg => Sys2Proof.Machine.execSetthr tmo arg s
  | .getthr tmo arg => Sys2Proof.Machine.execGetthr tmo arg s
  | .reserved5 tmo arg => Sys2Proof.Machine.execReserved5 tmo arg s
  | .reserved6 tmo arg => Sys2Proof.Machine.execReserved6 tmo arg s
  | .reserved7 tmo arg => Sys2Proof.Machine.execReserved7 tmo arg s
  | .crcCompute b => Sys2Proof.Machine.execCrcCompute b s
  | .crcVerify f => Sys2Proof.Machine.execCrcVerify f s
  | .frameEncode a fc p => Sys2Proof.Machine.execFrameEncode a fc p s
  | .frameValidate r n a => Sys2Proof.Machine.execFrameValidate r n a s
  | .decodeMeas r => Sys2Proof.Machine.execDecodeMeas r s

end Sys2Proof.Machine
end

