-- ==== Sys2Proof/Machine/Port.lean ====
section
/-! DEFINITION. The command port (spec/30_encoding.md R60, 60_exceptions.md R188, R195, R227): what one interface event
does. The caller's next event goes first; without one the engine takes its own step. -/

namespace Sys2Proof.Machine

/-- The word on the port, if the caller offers one now: `offer` at any time, `offerIdle` in IDLE only (R227). -/
def State.offered? (s : State) : Option CommandWord :=
  match s.port with
  | .offer w :: _ => some w
  | .offerIdle w :: _ => if s.fsm = .idle then some w else none
  | .pause :: _ => none
  | .reset :: _ => none
  | [] => none

/-- The offered word, decoded and run. -/
def runWord (w : CommandWord) (s : State) : Host.Outcome State Fault Refusal := exec (decodeCommand w) s

/-- One step (R6, R134; log entries 3 and 4): the caller's event, or the engine's own step. -/
def interfaceStep (s : State) : Host.Outcome State Fault Refusal :=
  match s.port with
  | [] => engineStep s
  | .pause :: rest => engineStep (s.setPort rest)
  | .reset :: rest => applyReset (s.setPort rest)
  | .offer w :: rest => runWord w (s.setPort rest)
  | .offerIdle w :: rest =>
    if s.fsm = .idle then runWord w (s.setPort rest) else engineStep s

/-- A command word placed on the port, to be offered at the very next step. A number that is no command word, or a row
without one, places nothing. -/
def placeWord (s : State) (nbits w : Nat) : State :=
  if nbits = 0 then s
  else if w < 2 ^ 20 then s.setPort (.offer (BitVec.ofNat 20 w) :: s.port)
  else s

end Sys2Proof.Machine
end

