-- ==== Sys2Proof/Machine/Step.lean ====
section
/-! DEFINITION. The machine's step, one interface event (spec/00_scope.md R6), and the host's way to place a word. -/

namespace Sys2Proof.Machine

/-- One step of the machine (R6, R134). -/
def step (s : State) : Host.Outcome State Fault Refusal := interfaceStep s

/-- `s` with the command word `w` on the command port, so that the very next step runs it (log entry 3). -/
def State.withFetchWord (s : State) (nbits w : Nat) : State := placeWord s nbits w

end Sys2Proof.Machine
end

