-- ==== Sys2Proof/Machine/Assembler.lean ====
section
/-! DEFINITION. The textual syntax of a command word (spec/30_encoding.md R77): `MNEMONIC[.T] [operand]`, the operand
present exactly for SETADDR and SETTHR, decimal or `0x` hexadecimal. A line is a list of characters. -/

namespace Sys2Proof.Machine

/-- The mnemonics of R61 and R77. -/
def mnemonicTable : List (List Char × Op) :=
  [(['R', 'E', 'A', 'D'], .read),
   (['S', 'E', 'T', 'A', 'D', 'D', 'R'], .setaddr),
   (['R', 'S', 'T', 'E'], .rste),
   (['S', 'E', 'T', 'T', 'H', 'R'], .setthr),
   (['G', 'E', 'T', 'T', 'H', 'R'], .getthr)]

/-- `MNEMONIC` or `MNEMONIC.T` (R77): the operation and `tmo`. -/
def headToken? (t : List Char) : Option (Op × Bool) :=
  match mnemonicTable.find? (fun e => e.1 == t) with
  | some e => some (e.2, false)
  | none =>
    match mnemonicTable.find? (fun e => e.1 ++ ['.', 'T'] == t) with
    | some e => some (e.2, true)
    | none => none

/-- The value of one digit in a base of at most 16, letters in either case. -/
def digit? (base : Nat) (c : Char) : Option Nat :=
  let n := c.toNat
  let v :=
    if 48 ≤ n ∧ n ≤ 57 then some (n - 48)
    else if 97 ≤ n ∧ n ≤ 102 then some (n - 87)
    else if 65 ≤ n ∧ n ≤ 70 then some (n - 55)
    else none
  match v with
  | some d => if d < base then some d else none
  | none => none

/-- The digits of a number after the value `acc` read so far. -/
def digits? (base : Nat) : Nat → List Char → Option Nat
  | acc, [] => some acc
  | acc, c :: cs =>
    match digit? base c with
    | some d => digits? base (acc * base + d) cs
    | none => none

/-- An operand token: at least one digit, and a value that fits `arg` (log entry 18). -/
def operandToken? (t : List Char) : Option Half :=
  let n :=
    match t with
    | [] => none
    | ['0', 'x'] => none
    | '0' :: 'x' :: hex => digits? 16 0 hex
    | dec => digits? 10 0 dec
  match n with
  | some v => if v < 2 ^ 16 then some (BitVec.ofNat 16 v) else none
  | none => none

/-- Whether the syntax gives the operation an operand (R77). -/
def takesOperand : Op → Bool
  | .read => false
  | .setaddr => true
  | .rste => false
  | .setthr => true
  | .getthr => false

/-- The words of a line: its maximal runs of characters other than the space. -/
def tokens : List Char → List (List Char)
  | [] => []
  | c :: cs =>
    if c = ' ' then tokens cs
    else
      match cs with
      | [] => [[c]]
      | d :: _ =>
        if d = ' ' then [c] :: tokens cs
        else
          match tokens cs with
          | [] => [[c]]
          | t :: ts => (c :: t) :: ts

/-- The command word of one line (R77, R60, R61). -/
def assemble? (line : List Char) : Option CommandWord :=
  match tokens line with
  | [] => none
  | head :: operands =>
    match headToken? head with
    | none => none
    | some (op, tmo) =>
      match takesOperand op, operands with
      | false, [] => some (commandWord tmo op.code 0)
      | true, [t] =>
        match operandToken? t with
        | some v => some (commandWord tmo op.code v)
        | none => none
      | false, _ :: _ => none
      | true, [] => none
      | true, _ :: _ :: _ => none

end Sys2Proof.Machine
end

