-- ==== Sys2Proof/Safety.lean ====
section
/-! DEFINITION. The terms claims use: a machine that is in order, what a run may show, and what the environment does. -/

namespace Sys2Proof.Machine

/-- `dev_addr` holds the general address or a legal one (spec/10_state.md R24). -/
def State.addrInOrder (s : State) : Prop :=
  s.devAddr = s.cfg.addrGeneral ∨ legalAddr s.cfg (s.devAddr.setWidth 16) = true

/-- A transaction is under way for the latched command: the request of R101 at the current address is in `tx_buf`, the
lengths are those of R71, and the operand passed the check of R121. -/
def State.underWay (s : State) : Prop :=
  argOk s.cfg s.op s.arg = true ∧ s.txBuf = request s.cfg s.op s.arg s.devAddr ∧ s.txLen = txLenOf s.op ∧
    s.rxLen = rxLenOf s.op

/-- What holds of the indices and buffers in each state of the sequencer (R21, R124, R126), and which error kinds an
operation can have (60_exceptions.md R182). -/
def State.sequenceInOrder (s : State) : Prop :=
  match s.fsm with
  | .idle => True
  | .sending => s.underWay ∧ s.txIdx < s.txLen ∧ s.rxCnt = 0 ∧ s.rxBuf = []
  | .receiving => s.underWay ∧ s.txIdx = s.txLen ∧ s.rxCnt ≤ s.rxLen ∧ s.rxBuf.length = s.rxCnt
  | .complete =>
    s.underWay ∧ s.txIdx = s.txLen ∧ s.rxCnt = s.rxLen ∧ s.rxBuf.length = s.rxCnt ∧
      frameValidate s.cfg s.rxBuf s.rxLen s.devAddr = .ok
  | .failed =>
    (s.err = .invalidArgument → s.op = .setaddr ∧ legalAddr s.cfg s.arg = false) ∧
      (s.err = .unexpectedResponse → s.devAddr ≠ s.cfg.addrGeneral)

/-- The transport is inside a write only while the engine is in SENDING (R123, R135). -/
def State.writeInOrder (s : State) : Prop := s.writeStuck = true → s.fsm = .sending

/-- The invariant of the machine. -/
def State.InOrder (s : State) : Prop := s.addrInOrder ∧ s.sequenceInOrder ∧ s.writeInOrder

/-- The configuration R211 admits. -/
def Admitted (cfg : Cfg) : Prop := resetAddrOk cfg = true

/-- A caller event that keeps the duties of R195 and R227: words are held back until IDLE and spell an operation. -/
def CallerEvent.dutiful : CallerEvent → Bool
  | .offer _ => false
  | .offerIdle w => !(w.getLsbD 18 && (w.getLsbD 17 || w.getLsbD 16))
  | .pause => true
  | .reset => true

/-- Every coming event of the caller is dutiful. -/
def State.Dutiful (s : State) : Prop := ∀ e ∈ s.port, e.dutiful = true

/-- A run's end a claim may speak of: "no claim about a run holds unless `busy_fault` is false at its end" (R188). -/
def State.Claimable (s : State) : Prop := s.busyFault = false

/-- The state less what the spec calls unspecified in it (R27, R210): in IDLE the latch, `err`, both buffers and their
counts; in FAILED both buffers and their counts, for R23 holds the latch until IDLE; elsewhere `err`. -/
def State.specified (s : State) : State :=
  match s.fsm with
  | .idle =>
    { s with op := .read, arg := 0, tmo := false, txBuf := [], txLen := 0, txIdx := 0, rxBuf := [], rxLen := 0,
             rxCnt := 0, err := .timeout }
  | .failed =>
    { s with txBuf := [], txLen := 0, txIdx := 0, rxBuf := [], rxLen := 0, rxCnt := 0 }
  | .sending => { s with err := .timeout }
  | .receiving => { s with err := .timeout }
  | .complete => { s with err := .timeout }

/-- `k` steps of the machine, stopping at the first fault or refusal: the host's `Host.Core.run` of `Sys2Proof.core`, on
the machine's own types. -/
def run : Nat → State → Host.Outcome State Fault Refusal
  | 0, s => .next s
  | k + 1, s =>
    match step s with
    | .next t => run k t
    | .fault r => .fault r
    | .refused r => .refused r

/-- A run as a claim may see it: a run that ends with `busy_fault` set is a fault (R188). -/
def claimedRun (k : Nat) (s : State) : Host.Outcome State Fault Refusal :=
  match run k s with
  | .next t => t.settled
  | .fault r => .fault r
  | .refused r => .refused r

/-- The caller waits: it offers nothing more, or holds its next word back until IDLE (R227). -/
def HeldBack (port : List CallerEvent) : Prop := port = [] ∨ ∃ w more, port = .offerIdle w :: more

/-- An outcome seen through a function of the next state. -/
def outcomeMap (f : State → State) : Host.Outcome State Fault Refusal → Host.Outcome State Fault Refusal
  | .next s => .next (f s)
  | .fault r => .fault r
  | .refused r => .refused r

/-- The byte a poll answer delivers, if it is one. -/
def PollAnswer.byte? : PollAnswer → Option Byte
  | .byte b => some b
  | .wouldBlock => none
  | .err => none

/-- `p` delivers exactly the bytes `r` without a read error, the last answer being a byte (R125, R126). -/
def Delivers (p : List PollAnswer) (r : List Byte) : Prop :=
  p.filterMap PollAnswer.byte? = r ∧ PollAnswer.err ∉ p ∧ ∃ b, p.getLast? = some (.byte b)

/-- How many of the answers are would-block. -/
def wouldBlocks (p : List PollAnswer) : Nat := p.count .wouldBlock

/-- The state after an accepted command: the latch, the whole request `f` in `tx_buf`, the lengths, SENDING, and one
timer start where `tmo` holds (R121, R122). Every field not named is as before. -/
def State.accepted (s : State) (op : Op) (tmo : Bool) (arg : Half) (f : List Byte) (txLen rxLen : Nat) : State :=
  { s with op := op, arg := arg, tmo := tmo, txBuf := f, txLen := txLen, txIdx := 0, rxBuf := [], rxLen := rxLen,
           rxCnt := 0, fsm := .sending, timerStarts := if tmo then s.timerStarts + 1 else s.timerStarts }

/-- The state after a report (R132, R133): the result posted, the buffers discarded, IDLE. -/
def State.reported (s : State) (r : Result) : State :=
  { s with result := r, rxCnt := 0, txBuf := [], rxBuf := [], fsm := .idle }

/-- The state after a transaction of an accepted command that wrote `sent` bytes and ended with `r`, the environment
left with `ws`, `ps` and `ts` and the caller with `rest`: what every ended transaction leaves, outputs and `err` aside. -/
def State.ended (s : State) (op : Op) (tmo : Bool) (arg : Half) (sent : Nat) (r : Result)
    (rest : List CallerEvent) (ws : List WriteAnswer) (ps : List PollAnswer) (ts : List Bool) : State :=
  { (s.accepted op tmo arg [] (txLenOf op) (rxLenOf op)).reported r with
    port := rest
    txIdx := sent
    line := s.line ++ (request s.cfg op arg s.devAddr).take sent
    writes := ws
    polls := ps
    timer := ts }

/-- The outputs after the commit of a response `r` (R156, R162, R166, R169, R172). -/
def State.withOutputs (s : State) (op : Op) (arg : Half) (r : List Byte) : State :=
  match op with
  | .read => { s with meas := (decodeMeas? s.cfg r).getD s.meas }
  | .setaddr => { s with devAddr := lowByte arg }
  | .rste => s
  | .setthr => s
  | .getthr => { s with thrOut := (decodeThr? r).getD s.thrOut }

/-- Bit `k` of a byte sequence flipped, counted from bit 0 of byte 0 (R97). -/
def flipBit (k : Nat) (f : List Byte) : List Byte :=
  f.modify (k / 8) (fun b => b ^^^ BitVec.twoPow 8 (k % 8))

/-- How an operand is written (R77): decimal, or `0x` hexadecimal with its letters in one case (log entry 18). -/
inductive Spelling where
  | decimal
  | hexLower
  | hexUpper
  deriving DecidableEq, Repr

/-- The base of a spelling. -/
def Spelling.base : Spelling → Nat
  | .decimal => 10
  | .hexLower => 16
  | .hexUpper => 16

/-- The text of one digit below the base. -/
def Spelling.digit (sp : Spelling) (d : Nat) : Char :=
  match sp with
  | .decimal => Char.ofNat (48 + d)
  | .hexLower => Char.ofNat (if d < 10 then 48 + d else 87 + d)
  | .hexUpper => Char.ofNat (if d < 10 then 48 + d else 55 + d)

/-- The digits of a number below `base ^ k`, with no leading zeros. -/
def Spelling.digits (sp : Spelling) : Nat → Nat → List Char
  | 0, _ => []
  | k + 1, n => (if n < sp.base then [] else sp.digits k (n / sp.base)) ++ [sp.digit (n % sp.base)]

/-- What stands before the digits. -/
def Spelling.mark : Spelling → List Char
  | .decimal => []
  | .hexLower => ['0', 'x']
  | .hexUpper => ['0', 'x']

/-- A 16-bit operand as R77 writes it, after `zeros` leading zeros. -/
def Spelling.operand (sp : Spelling) (zeros : Nat) (v : Half) : List Char :=
  sp.mark ++ List.replicate zeros '0' ++ sp.digits 5 v.toNat

/-- The line of R77 for an operation, its timeout flag, and the text of its operand where it takes one. -/
def sourceLine (op : Op) (tmo : Bool) (operand : List Char) : List Char :=
  let name :=
    match op with
    | .read => ['R', 'E', 'A', 'D']
    | .setaddr => ['S', 'E', 'T', 'A', 'D', 'D', 'R']
    | .rste => ['R', 'S', 'T', 'E']
    | .setthr => ['S', 'E', 'T', 'T', 'H', 'R']
    | .getthr => ['G', 'E', 'T', 'T', 'H', 'R']
  let timed := if tmo then name ++ ['.', 'T'] else name
  if takesOperand op then timed ++ ' ' :: operand else timed

end Sys2Proof.Machine
end

