-- ==== Sys2Proof/Certificates/Slice0/Obligations.lean ====
section
/-! DEFINITION. The statements for the provers. Each docstring names the rule of spec/ it formalises; what rests on the
model's own choice says so and names the log entry. -/

open Sys2Proof Sys2Proof.Machine

/-! ### Reset and configuration -/

/-- R210: the values reset leaves, for the configuration R7 adopts and for any. The fields R210 leaves unspecified are
not spoken of. -/
def Obligations.ResetLeavesSpecifiedValues : Prop :=
  (State.reset.devAddr = 0xF8 ∧ State.reset.result.code = 15) ∧
  ∀ cfg : Cfg,
    (State.resetWith cfg).fsm = .idle ∧ (State.resetWith cfg).devAddr = cfg.resetAddr ∧
    (State.resetWith cfg).result = .none ∧ (State.resetWith cfg).meas = ⟨0, 0, 0, 0, 0, 0, false⟩ ∧
    (State.resetWith cfg).thrOut = 0 ∧ (State.resetWith cfg).busyFault = false

/-- R211, R212: a reset at any time leaves the engine as after reset and the environment as it was; a configuration
with another reset address is refused. The next state is compared through `State.specified`, so the placeholders of log
entry 6 are not spoken of. THE MODEL'S: a reset is an event of the caller and leaves the caller's others (log entry 3), it
is the place where an illegal address is refused (13), it leaves the record of emitted events and of returned values (14,
9), and it ends a write that never returned (21). -/
def Obligations.ResetAbandonsTransaction : Prop :=
  ∀ (s : State) (rest : List CallerEvent), s.port = .reset :: rest →
    (s.cfg.resetAddr = s.cfg.addrGeneral ∨ legalAddr s.cfg (s.cfg.resetAddr.setWidth 16) = true →
      ∃ t, step s = .next t ∧
        t.specified = { State.resetWith s.cfg with
          port := rest, writes := s.writes, polls := s.polls, timer := s.timer, line := s.line,
          timerStarts := s.timerStarts, draws := s.draws, fnResult := s.fnResult }.specified) ∧
    (s.cfg.resetAddr ≠ s.cfg.addrGeneral ∧ legalAddr s.cfg (s.cfg.resetAddr.setWidth 16) = false →
      step s = .refused .illegalResetAddr)

/-- The state after reset is in order, for the configuration R7 adopts and for every one R211 admits. -/
def Obligations.ResetIsInOrder : Prop :=
  State.reset.InOrder ∧ ∀ cfg : Cfg, Admitted cfg → (State.resetWith cfg).InOrder

/-- R21, R24, R103, R124, R126, R135, R182: every step keeps the machine in order. -/
def Obligations.StepKeepsOrder : Prop :=
  ∀ s t : State, s.InOrder → step s = .next t → t.InOrder

/-- R26, R43, R108, R134: from a machine in order no step faults, whatever the environment answers: no byte without a
value is read, and the one state without an enabled step is a write that never returns, in which the machine stays (log entry 21). -/
def Obligations.OrderedMachineNeverFaults : Prop :=
  ∀ (s : State) (r : Fault), s.InOrder → step s ≠ .fault r

/-- R7, R49: no step writes the configuration (that it is a field of State is the model's, log entry 8). -/
def Obligations.StepKeepsConfiguration : Prop :=
  ∀ s t : State, step s = .next t → t.cfg = s.cfg

/-! ### Encodings -/

/-- R60, R61, R63, R77: words written out from the spec's encoding decode to what they stand for. -/
def Obligations.WrittenOutWordsDecode : Prop :=
  decodeCommand 0x80000 = .read true 0 ∧ decodeCommand 0x10005 = .setaddr false 5 ∧
  decodeCommand 0x20000 = .rste false 0 ∧ decodeCommand 0xB08FC = .setthr true 2300 ∧
  decodeCommand 0x40000 = .getthr false 0 ∧ decodeCommand 0x50000 = .reserved5 false 0 ∧
  decodeCommand 0x6FFFF = .reserved6 false 0xFFFF ∧ decodeCommand 0xF0001 = .reserved7 true 1

/-- R60 to R63: decoding an encoded instruction gives it back, every operand at every value. -/
def Obligations.DecodeEncodeAgree : Prop :=
  ∀ (i : Instr) (w : CommandWord), encode i = some w → decodeCommand w = i

/-- R60 to R63: encoding what a word decodes to gives the word back; so each word has one meaning. -/
def Obligations.EncodeDecodeAgree : Prop :=
  ∀ w : CommandWord, encode (decodeCommand w) = some w

/-- R63 (30_encoding.md section 1): in IDLE a reserved code is refused, alone and offered on the port, whatever `tmo` and `arg`. -/
def Obligations.ReservedCodesRefused : Prop :=
  ∀ (s : State) (tmo : Bool) (arg : Half), s.fsm = .idle →
    exec (.reserved5 tmo arg) s = .refused (.reservedOp 5) ∧
    exec (.reserved6 tmo arg) s = .refused (.reservedOp 6) ∧
    exec (.reserved7 tmo arg) s = .refused (.reservedOp 7) ∧
    ∀ (w : CommandWord) (rest : List CallerEvent),
      s.port = .offer w :: rest → 5 ≤ (opField w).toNat → step s = .refused (.reservedOp (opField w))

/-- A reserved code offered outside IDLE is refused as well and sets no bit. THE MODEL'S CHOICE (log entry 5): R188 names
no exception for such a word and R63 names none for a busy engine. -/
def Obligations.ReservedCodesRefusedWhileBusy : Prop :=
  ∀ (s : State) (tmo : Bool) (arg : Half), s.fsm ≠ .idle →
    exec (.reserved5 tmo arg) s = .refused (.reservedOp 5) ∧
    exec (.reserved6 tmo arg) s = .refused (.reservedOp 6) ∧
    exec (.reserved7 tmo arg) s = .refused (.reservedOp 7)

/-- R77: the textual form of every command assembles to its word, the operand in decimal or in hexadecimal. That the
hexadecimal letters may be of either case and that leading zeros may stand before the digits is log entry 18. -/
def Obligations.AssemblerReadsEveryCommand : Prop :=
  ∀ (op : Op) (tmo : Bool) (v : Half) (sp : Spelling) (zeros : Nat),
    assemble? (sourceLine op tmo (sp.operand zeros v)) =
      some (commandWord tmo op.code (if takesOperand op then v else 0))

/-! ### Byte orders -/

/-- R46, R47, R48: the values of byte pairs and of four bytes under each word order. -/
def Obligations.ByteAndWordOrders : Prop :=
  ∀ c0 c1 c2 c3 : Byte,
    (be16 c0 c1).toNat = 256 * c0.toNat + c1.toNat ∧ (le16 c0 c1).toNat = 256 * c1.toNat + c0.toNat ∧
    (w32 .lowWordFirst c0 c1 c2 c3).toNat = 65536 * (be16 c2 c3).toNat + (be16 c0 c1).toNat ∧
    (w32 .highWordFirst c0 c1 c2 c3).toNat = 65536 * (be16 c0 c1).toNat + (be16 c2 c3).toNat

/-! ### Checksum -/

/-- R91: the checksum of no bytes is the seed, and each further byte is folded in by eight shifts. The shift is written
here on numbers. -/
def Obligations.ChecksumFollowsBitLoop : Prop :=
  Cfg.default.crcSeed = 0xFFFF ∧ Cfg.default.crcPoly = 0xA001 ∧
  ∀ cfg : Cfg, crc16 cfg [] = cfg.crcSeed ∧
    ∀ (s : List Byte) (b : Byte),
      (crc16 cfg (s ++ [b])).toNat =
        (fun c : Nat => if c % 2 = 1 then (c / 2) ^^^ cfg.crcPoly.toNat else c / 2)^[8]
          ((crc16 cfg s).toNat ^^^ b.toNat)

/-- R92: the table holds the inner loop's value from `zext_16(k)`, one byte updates the register through it, and the
table-driven computation equals the bit loop for every sequence. -/
def Obligations.TableChecksumEqualsBitLoop : Prop :=
  (∀ (poly : Half) (k : Byte), crcTable poly k = crcByte poly 0 k) ∧
  ∀ (cfg : Cfg) (s : List Byte),
    (∀ b : Byte, crc16ByTable cfg (s ++ [b]) =
      (crc16ByTable cfg s >>> 8) ^^^ crcTable cfg.crcPoly ((crc16ByTable cfg s ^^^ b.setWidth 16).extractLsb' 0 8)) ∧
    crc16ByTable cfg s = crc16 cfg s

/-- R96: an appended checksum verifies. -/
def Obligations.AppendedChecksumVerifies : Prop :=
  ∀ (cfg : Cfg) (s : List Byte), crcVerify cfg (crcAppend cfg s) = true

/-- R97: every single-bit error in a checksum-appended frame is detected. -/
def Obligations.SingleBitErrorsDetected : Prop :=
  ∀ (cfg : Cfg) (s : List Byte) (k : Nat), cfg.crcPoly = 0xA001 → k < 8 * (s.length + 2) →
    crcVerify cfg (flipBit k (crcAppend cfg s)) = false

/-- R98: the checksum of a frame with its trailer is zero. -/
def Obligations.ChecksumResidueIsZero : Prop :=
  ∀ (cfg : Cfg) (s : List Byte), crc16 cfg (crcAppend cfg s) = 0

/-- R93: CRC_COMPUTE completes in every state, returns the checksum (the seed for no bytes) and writes nothing else. The
place of the returned value is the model's (log entry 9). -/
def Obligations.CrcComputeReturnsChecksum : Prop :=
  ∀ (s : State) (b : List Byte),
    exec (.crcCompute b) s = .next { s with fnResult := .crc (crc16 s.cfg b) } ∧
    exec (.crcCompute []) s = .next { s with fnResult := .crc s.cfg.crcSeed }

/-- R94: CRC_VERIFY completes in every state: false below two bytes, else the checksum of all but the last two bytes
against those two, low byte first; it writes nothing else (log entry 9). -/
def Obligations.CrcVerifyComparesTrailer : Prop :=
  ∀ (s : State) (f : List Byte) (lo hi : Byte),
    (f.length < 2 → exec (.crcVerify f) s = .next { s with fnResult := .verified false }) ∧
    exec (.crcVerify (f ++ [lo, hi])) s =
      .next { s with fnResult := .verified (decide (crc16 s.cfg f = le16 lo hi)) }

/-! ### Frame codec -/

/-- R100: FRAME_ENCODE completes in every state and returns address, function code, payload and checksum, low byte
first; it writes nothing else (log entry 9). -/
def Obligations.FrameEncodeReturnsFrame : Prop :=
  ∀ (s : State) (a fc : Byte) (p : List Byte),
    exec (.frameEncode a fc p) s =
      .next { s with fnResult := .frame ([a, fc] ++ p ++
        [(crc16 s.cfg ([a, fc] ++ p)).extractLsb' 0 8, (crc16 s.cfg ([a, fc] ++ p)).extractLsb' 8 8]) }

/-- R102 to R105, R107: FRAME_VALIDATE completes in every state, with the length checked first and the other two checks
in the configured order; it writes nothing else (log entry 9). -/
def Obligations.FrameValidateChecksInOrder : Prop :=
  ∀ (s : State) (b : Byte) (r : List Byte) (n a : Byte),
    ((b :: r).length ≠ n.toNat →
      exec (.frameValidate (b :: r) n a) s = .next { s with fnResult := .verdict (.err .unexpectedResponse) }) ∧
    ((b :: r).length = n.toNat →
      exec (.frameValidate (b :: r) n a) s = .next { s with fnResult := .verdict (
        match s.cfg.checkOrder with
        | .crcFirst =>
          if crcVerify s.cfg (b :: r) = false then .err .checksumMismatch
          else if a ≠ s.cfg.addrGeneral ∧ b ≠ a then .err .unexpectedResponse
          else .ok
        | .addrFirst =>
          if a ≠ s.cfg.addrGeneral ∧ b ≠ a then .err .unexpectedResponse
          else if crcVerify s.cfg (b :: r) = false then .err .checksumMismatch
          else .ok) })

/-- R102, R103: FRAME_VALIDATE of an empty response completes too: never `VOk`, whatever the free value of log entry 10. -/
def Obligations.EmptyResponseNeverValid : Prop :=
  ∀ (s : State) (n a : Byte), ∃ k : ErrKind,
    exec (.frameValidate [] n a) s = .next { s with fnResult := .verdict (.err k) } ∧
    (n ≠ 0 → k = .unexpectedResponse) ∧ (k = .unexpectedResponse ∨ k = .checksumMismatch)

/-- R64, R96, R104, R106: a frame encoded by a device at address `a` passes when the request went to `a` or to the
general address, and is an UnexpectedResponse otherwise, whatever its function code and payload. -/
def Obligations.EncodedFrameValidates : Prop :=
  ∀ (cfg : Cfg) (a fc : Byte) (p : List Byte) (sentTo : Byte),
    frameValidate cfg (frameEncode cfg a fc p) (p.length + 4) sentTo =
      if sentTo = cfg.addrGeneral ∨ sentTo = a then .ok else .err .unexpectedResponse

/-- R71, R74, R101: the request of each operation at address `a` under the adopted configuration, and its length under
any. -/
def Obligations.RequestsAreTheOpcodeMap : Prop :=
  (∀ (arg : Half) (a : Byte),
    request Cfg.default .read arg a = crcAppend Cfg.default [a, 0x04, 0x00, 0x00, 0x00, 0x0A] ∧
    request Cfg.default .getthr arg a = crcAppend Cfg.default [a, 0x03, 0x00, 0x01, 0x00, 0x01] ∧
    request Cfg.default .setthr arg a =
      crcAppend Cfg.default [a, 0x06, 0x00, 0x01, arg.extractLsb' 8 8, arg.extractLsb' 0 8] ∧
    request Cfg.default .setaddr arg a = crcAppend Cfg.default [a, 0x06, 0x00, 0x02, 0x00, arg.extractLsb' 0 8] ∧
    request Cfg.default .rste arg a = crcAppend Cfg.default [a, 0x42]) ∧
  ∀ (cfg : Cfg) (op : Op) (arg : Half) (a : Byte), (request cfg op arg a).length = txLenOf op

/-! ### Payload decoder -/

/-- R73, R152: DECODE_MEAS of a 25-byte response completes in every state and returns the seven values of the fixed
offsets; it writes nothing else (log entry 9). On another length it faults, which is the model's choice (log entry 11). -/
def Obligations.DecodeMeasReadsFixedOffsets : Prop :=
  ∀ (s : State) (r : List Byte),
    (∀ h : r.length = 25, exec (.decodeMeas r) s = .next { s with fnResult := .meas {
      v := be16 r[3] r[4]
      i := w32 s.cfg.wordOrder32 r[5] r[6] r[7] r[8]
      p := w32 s.cfg.wordOrder32 r[9] r[10] r[11] r[12]
      e := w32 s.cfg.wordOrder32 r[13] r[14] r[15] r[16]
      f := be16 r[17] r[18]
      pf := be16 r[19] r[20]
      alarm := decide (be16 r[21] r[22] ≠ 0) } }) ∧
    (r.length ≠ 25 → exec (.decodeMeas r) s = .fault .operandLength)

/-- R150, R152: what a sensor lays out is what the decoder reads back, for every measurement, alarm word, header and
word order. -/
def Obligations.MeasurementPayloadRoundTrip : Prop :=
  ∀ (cfg : Cfg) (a fc bc : Byte) (m : Measurement) (alarmWord : Half),
    decodeMeas? cfg (frameEncode cfg a fc (bc :: measPayload cfg.wordOrder32 m alarmWord)) =
      some { m with alarm := decide (alarmWord ≠ 0) }

/-- R153: the alarm is whether the alarm word is nonzero, in either byte order. -/
def Obligations.AlarmExactInEitherByteOrder : Prop :=
  ∀ (cfg : Cfg) (r : List Byte) (m : Measurement) (h : r.length = 25), decodeMeas? cfg r = some m →
    (m.alarm = true ↔ be16 r[21] r[22] ≠ 0) ∧ (m.alarm = true ↔ le16 r[21] r[22] ≠ 0)

/-- R154: the threshold of a 7-byte response, which no other byte of it changes. -/
def Obligations.ThresholdReadsItsTwoBytes : Prop :=
  ∀ (r : List Byte) (h : r.length = 7), decodeThr? r = some (be16 r[3] r[4])

/-- R151: each quantity is the raw count over its scale, and its largest value is reached at the largest raw count. -/
def Obligations.QuantitiesAreExact : Prop :=
  ∀ m : Measurement,
    (m.volts * 10 = m.v.toNat ∧ m.volts ≤ 65535 / 10) ∧
    (m.amps * 1000 = m.i.toNat ∧ m.amps ≤ 4294967295 / 1000) ∧
    (m.watts * 10 = m.p.toNat ∧ m.watts ≤ 4294967295 / 10) ∧
    (m.wattHours = m.e.toNat ∧ m.wattHours ≤ 4294967295 ∧ m.kiloWattHours * 1000 = m.wattHours) ∧
    (m.hertz * 10 = m.f.toNat ∧ m.hertz ≤ 65535 / 10) ∧
    (m.powerFactor * 100 = m.pf.toNat ∧ m.powerFactor ≤ 65535 / 100)

/-! ### Commands: acceptance -/

/-- R65, R121, R122, R155: READ in IDLE completes its ACCEPT step, `arg` ignored but latched (log entry 12). -/
def Obligations.ReadLoadsItsRequest : Prop :=
  ∀ (s : State) (tmo : Bool) (arg : Half), s.fsm = .idle →
    exec (.read tmo arg) s = .next (s.accepted .read tmo arg
      (crcAppend s.cfg ([s.devAddr, s.cfg.fcReadInput] ++ beBytes s.cfg.regMeasStart ++ beBytes s.cfg.regMeasCount)) 8 25)

/-- R66, R121, R122, R161: SETADDR of a legal address in IDLE completes its ACCEPT step; the request goes to the old
address. -/
def Obligations.SetaddrLoadsItsRequest : Prop :=
  ∀ (s : State) (tmo : Bool) (arg : Half), s.fsm = .idle →
    s.cfg.addrMin.toNat ≤ arg.toNat → arg.toNat ≤ s.cfg.addrMax.toNat →
    exec (.setaddr tmo arg) s = .next (s.accepted .setaddr tmo arg
      (crcAppend s.cfg ([s.devAddr, s.cfg.fcWriteSingle] ++ beBytes s.cfg.regAddress ++ beBytes arg)) 8 8)

/-- R67, R121, R122, R165: RSTE in IDLE completes its ACCEPT step, `arg` ignored but latched (log entry 12). -/
def Obligations.RsteLoadsItsRequest : Prop :=
  ∀ (s : State) (tmo : Bool) (arg : Half), s.fsm = .idle →
    exec (.rste tmo arg) s = .next (s.accepted .rste tmo arg
      (crcAppend s.cfg [s.devAddr, s.cfg.fcResetEnergy]) 4 4)

/-- R66, R121, R122, R168: SETTHR in IDLE completes its ACCEPT step for every threshold. -/
def Obligations.SetthrLoadsItsRequest : Prop :=
  ∀ (s : State) (tmo : Bool) (arg : Half), s.fsm = .idle →
    exec (.setthr tmo arg) s = .next (s.accepted .setthr tmo arg
      (crcAppend s.cfg ([s.devAddr, s.cfg.fcWriteSingle] ++ beBytes s.cfg.regThreshold ++ beBytes arg)) 8 8)

/-- R65, R121, R122, R171: GETTHR in IDLE completes its ACCEPT step, `arg` ignored but latched (log entry 12). -/
def Obligations.GetthrLoadsItsRequest : Prop :=
  ∀ (s : State) (tmo : Bool) (arg : Half), s.fsm = .idle →
    exec (.getthr tmo arg) s = .next (s.accepted .getthr tmo arg
      (crcAppend s.cfg ([s.devAddr, s.cfg.fcReadHolding] ++ beBytes s.cfg.regThreshold ++ [0x00, 0x01])) 8 7)

/-- R160: the legal addresses under the adopted configuration, and the illegal ones the rule lists. -/
def Obligations.LegalAddressRange : Prop :=
  ∀ x : Half,
    (legalAddr Cfg.default x = true ↔ 0x01 ≤ x.toNat ∧ x.toNat ≤ 0xF7) ∧
    (legalAddr Cfg.default x = false ↔ x = 0x0000 ∨ (0x00F8 ≤ x.toNat ∧ x.toNat ≤ 0x00FF) ∨ 0x00FF < x.toNat) ∧
    ∀ cfg : Cfg, legalAddr cfg x = true ↔ cfg.addrMin.toNat ≤ x.toNat ∧ x.toNat ≤ cfg.addrMax.toNat

/-- R121, R161, R183: SETADDR of an illegal address in IDLE ends in FAILED with InvalidArgument: no transport access, no
timer start, no output written. -/
def Obligations.IllegalAddressRejected : Prop :=
  ∀ (s : State) (tmo : Bool) (arg : Half), s.fsm = .idle →
    arg.toNat < s.cfg.addrMin.toNat ∨ s.cfg.addrMax.toNat < arg.toNat →
    exec (.setaddr tmo arg) s =
      .next { s with op := .setaddr, arg := arg, tmo := tmo, fsm := .failed, err := .invalidArgument }

/-- R188: a command outside IDLE sets `busy_fault` and changes nothing else. -/
def Obligations.BusyCommandOnlySetsBusyFault : Prop :=
  ∀ (s : State) (tmo : Bool) (arg : Half), s.fsm ≠ .idle →
    exec (.read tmo arg) s = .next { s with busyFault := true } ∧
    exec (.setaddr tmo arg) s = .next { s with busyFault := true } ∧
    exec (.rste tmo arg) s = .next { s with busyFault := true } ∧
    exec (.setthr tmo arg) s = .next { s with busyFault := true } ∧
    exec (.getthr tmo arg) s = .next { s with busyFault := true }

/-- R31, R188: `busy_fault` is set by a step exactly where a command is offered at once outside IDLE, and only a reset
clears it; so a run in which it is set once and no reset follows supports no claim. That an offer is a step of its own is
the model's (log entry 4). -/
def Obligations.BusyFaultIsSticky : Prop :=
  (∀ s t : State, step s = .next t →
    (t.busyFault = true ↔
      (∀ rest, s.port ≠ .reset :: rest) ∧
        (s.busyFault = true ∨ (s.fsm ≠ .idle ∧ ∃ w rest, s.port = .offer w :: rest)))) ∧
  ∀ (s : State) (n : Nat), s.busyFault = true → .reset ∉ s.port → ∀ t, claimedRun n s ≠ .next t

/-! ### The step

The statements about SEND, POLL, VALIDATE and REPORT are over `engineStep`, whatever the caller has on the port:
StepRunsOfferedCommand says when a step is the engine's own. -/

/-- R6, R120, R134: an offered word is decoded and run; with no event of the caller the engine takes its own step, and
IDLE is quiescent. The form of the caller's events is the model's (log entries 3 and 4), and so is the answer of the same
state where R120 says that no step is taken (log entry 19). -/
def Obligations.StepRunsOfferedCommand : Prop :=
  ∀ (s : State) (w : CommandWord) (rest : List CallerEvent),
    (s.port = .offer w :: rest → step s = exec (decodeCommand w) { s with port := rest }) ∧
    (s.port = .offerIdle w :: rest → s.fsm = .idle → step s = exec (decodeCommand w) { s with port := rest }) ∧
    (s.port = .offerIdle w :: rest → s.fsm ≠ .idle → step s = engineStep s) ∧
    (s.port = .pause :: rest → step s = engineStep { s with port := rest }) ∧
    (s.port = [] → step s = engineStep s) ∧
    (s.port = [] → s.fsm = .idle → step s = .next s)

/-- R123: the SEND step under each answer of the transport. A write that gives none is HungWriteHoldsSending. -/
def Obligations.SendStepWritesNextByte : Prop :=
  ∀ (s : State) (b : Byte) (ws : List WriteAnswer), s.fsm = .sending → s.writeStuck = false → s.txIdx < s.txLen →
    s.txBuf[s.txIdx]? = some b →
    (s.writes = .ok :: ws →
      engineStep s = .next { s with
        writes := ws, line := s.line ++ [b], txIdx := s.txIdx + 1,
        fsm := if s.txIdx + 1 = s.txLen then .receiving else .sending }) ∧
    (s.writes = .err :: ws → engineStep s = .next { s with writes := ws, fsm := .failed, err := .transportWrite })

/-- R125, R128: the POLL step under each answer of the transport and of the timer. -/
def Obligations.PollStepTakesOneAnswer : Prop :=
  ∀ (s : State) (ps : List PollAnswer) (ts : List Bool), s.fsm = .receiving → s.rxCnt < s.rxLen → s.rxLen ≤ 25 →
    s.rxBuf.length = s.rxCnt →
    (∀ b, s.polls = .byte b :: ps →
      engineStep s = .next { s with polls := ps, rxBuf := s.rxBuf ++ [b], rxCnt := s.rxCnt + 1 }) ∧
    (s.polls = .wouldBlock :: ps → s.tmo = true → s.timer = true :: ts →
      engineStep s = .next { s with polls := ps, timer := ts, fsm := .failed, err := .timeout }) ∧
    (s.polls = .wouldBlock :: ps → s.tmo = true → s.timer = false :: ts →
      engineStep s = .next { s with polls := ps, timer := ts }) ∧
    (s.polls = .wouldBlock :: ps → s.tmo = false → engineStep s = .next { s with polls := ps }) ∧
    (s.polls = .err :: ps → engineStep s = .next { s with polls := ps, fsm := .failed, err := .transportRead })

/-- R41, R42, R129: an answer the state does not script is some answer of the environment, whichever (log entry 2): the
engine's step is then its step under a script that holds that answer. -/
def Obligations.UnscriptedAnswersAreSomeAnswer : Prop :=
  ∀ s : State,
    (s.fsm = .sending → s.writeStuck = false → s.writes = [] →
      ∃ w, engineStep s = engineStep { s with writes := [w], draws := s.draws + 1 }) ∧
    (s.fsm = .receiving → s.rxCnt < s.rxLen → s.polls = [] →
      ∃ p, engineStep s = engineStep { s with polls := [p], draws := s.draws + 1 }) ∧
    (s.fsm = .receiving → s.rxCnt < s.rxLen → s.tmo = true → s.timer = [] →
      ∀ ps, s.polls = .wouldBlock :: ps →
        ∃ e, engineStep s = engineStep { s with timer := [e], draws := s.draws + 1 })

/-- R127: the VALIDATE step on a full buffer. -/
def Obligations.ValidateStepDecides : Prop :=
  ∀ s : State, s.fsm = .receiving → s.rxCnt = s.rxLen → s.rxBuf.length = s.rxCnt →
    (frameValidate s.cfg s.rxBuf s.rxLen s.devAddr = .ok →
      engineStep s = .next { s with fsm := .complete }) ∧
    ∀ k, frameValidate s.cfg s.rxBuf s.rxLen s.devAddr = .err k →
      engineStep s = .next { s with fsm := .failed, err := k }

/-- R132, R156: the REPORT step of READ writes the seven measurement registers at once. -/
def Obligations.ReadCommitsMeasurements : Prop :=
  ∀ (s : State) (m : Measurement), s.fsm = .complete → s.op = .read → s.rxCnt = 25 →
    s.rxBuf.length = 25 → decodeMeas? s.cfg s.rxBuf = some m →
    engineStep s = .next { s with
      meas := m, result := .ok, rxCnt := 0, txBuf := [], rxBuf := [], fsm := .idle }

/-- R162: the REPORT step of SETADDR writes `dev_addr`, and no other step but a reset does. -/
def Obligations.SetaddrCommitsAddress : Prop :=
  (∀ s : State, s.fsm = .complete → s.op = .setaddr →
    engineStep s = .next { s with
      devAddr := s.arg.extractLsb' 0 8, result := .ok, rxCnt := 0, txBuf := [], rxBuf := [], fsm := .idle }) ∧
  ∀ s t : State, step s = .next t → t.devAddr ≠ s.devAddr →
    (∃ rest, s.port = .reset :: rest) ∨ (s.fsm = .complete ∧ s.op = .setaddr ∧ t.devAddr = s.arg.extractLsb' 0 8)

/-- R166, R169: the REPORT step of RSTE and of SETTHR writes nothing beyond `result`, the discard and IDLE. -/
def Obligations.RsteAndSetthrCommitNothing : Prop :=
  ∀ s : State, s.fsm = .complete → s.op = .rste ∨ s.op = .setthr →
    engineStep s = .next { s with result := .ok, rxCnt := 0, txBuf := [], rxBuf := [], fsm := .idle }

/-- R172: the REPORT step of GETTHR writes `thr_out`. -/
def Obligations.GetthrCommitsThreshold : Prop :=
  ∀ (s : State) (r : List Byte) (h : r.length = 7), s.fsm = .complete → s.op = .getthr →
    s.rxCnt = 7 → s.rxBuf = r →
    engineStep s = .next { s with
      thrOut := be16 r[3] r[4], result := .ok, rxCnt := 0, txBuf := [], rxBuf := [], fsm := .idle }

/-- R133, R185: the REPORT step from FAILED posts the kind, discards the buffers and writes no output. -/
def Obligations.FailedReportPostsError : Prop :=
  ∀ s : State, s.fsm = .failed →
    engineStep s = .next { s with result := .error s.err, rxCnt := 0, txBuf := [], rxBuf := [], fsm := .idle }

/-- R22: the codes of the sequencer's states, and that 5 to 7 are never reached. -/
def Obligations.SequencerCodes : Prop :=
  Fsm.idle.code = 0 ∧ Fsm.sending.code = 1 ∧ Fsm.receiving.code = 2 ∧ Fsm.complete.code = 3 ∧ Fsm.failed.code = 4 ∧
  ∀ q : Fsm, q.code.toNat < 5

/-- R181: the result codes; 7 to 14 are never written. -/
def Obligations.ResultCodes : Prop :=
  Result.ok.code = 0 ∧ (Result.error .transportWrite).code = 1 ∧ (Result.error .transportRead).code = 2 ∧
  (Result.error .timeout).code = 3 ∧ (Result.error .checksumMismatch).code = 4 ∧
  (Result.error .unexpectedResponse).code = 5 ∧ (Result.error .invalidArgument).code = 6 ∧ Result.none.code = 15 ∧
  ∀ r : Result, r.code.toNat < 7 ∨ r.code.toNat = 15

/-! ### Whole-machine rules -/

/-- R29, R30, R132, R133, R157, R184: but for a reset, the measurement and threshold registers and `dev_addr` change only
in the REPORT step from COMPLETE, each only for its operation, and `result` only in a REPORT step. -/
def Obligations.OutputsChangeOnlyInReport : Prop :=
  ∀ s t : State, step s = .next t → (∀ rest, s.port ≠ .reset :: rest) →
    (t.meas ≠ s.meas → s.fsm = .complete ∧ s.op = .read ∧ t.fsm = .idle ∧ t.result = .ok) ∧
    (t.thrOut ≠ s.thrOut → s.fsm = .complete ∧ s.op = .getthr ∧ t.fsm = .idle ∧ t.result = .ok) ∧
    (t.devAddr ≠ s.devAddr → s.fsm = .complete ∧ s.op = .setaddr ∧ t.fsm = .idle ∧ t.result = .ok) ∧
    (t.result ≠ s.result → t.fsm = .idle ∧
      ((s.fsm = .complete ∧ t.result = .ok) ∨ (s.fsm = .failed ∧ t.result = .error s.err)))

/-- R45, R54, R126, R128: a step consumes a poll answer only in RECEIVING below the expected length, a write answer only
in SENDING, and a timer answer only after a would-block answer with `tmo`; at most one of each kind. An answer beyond the
scripts is a free draw, taken in the same places only (log entry 2): one for a write, one for a poll, one for the timer. -/
def Obligations.EngineReadsOnlyWhatItMay : Prop :=
  ∀ s t : State, step s = .next t →
    (t.polls = s.polls ∨ (s.fsm = .receiving ∧ s.rxCnt < s.rxLen ∧ ∃ p, s.polls = p :: t.polls)) ∧
    (t.writes = s.writes ∨ (s.fsm = .sending ∧ s.writeStuck = false ∧ ∃ w, s.writes = w :: t.writes)) ∧
    (t.timer = s.timer ∨ (s.fsm = .receiving ∧ s.rxCnt < s.rxLen ∧ s.tmo = true ∧
      (∀ p ps, s.polls = p :: ps → p = .wouldBlock) ∧ ∃ e, s.timer = e :: t.timer)) ∧
    (t.draws = s.draws ∨
      (s.fsm = .sending ∧ s.writeStuck = false ∧ s.writes = [] ∧ t.draws = s.draws + 1) ∨
      (s.fsm = .receiving ∧ s.rxCnt < s.rxLen ∧
        ((s.polls = [] ∧ t.draws = s.draws + 1) ∨
          (s.tmo = true ∧ s.timer = [] ∧ (∀ p ps, s.polls = p :: ps → p = .wouldBlock) ∧
            t.draws = s.draws + (if s.polls = [] then 2 else 1)))))

/-- R27, R210, R212: what the spec calls unspecified is never read. Two states that agree on everything specified take
steps that agree on everything specified; so no value the model names for an unspecified field (log entry 6) matters. -/
def Obligations.UnspecifiedStateNeverRead : Prop :=
  ∀ s1 s2 : State, s1.specified = s2.specified →
    outcomeMap State.specified (step s1) = outcomeMap State.specified (step s2)

/-- R63, R188, R195, R211, R227: under a caller that keeps its duties and an admitted configuration, no step is refused,
`busy_fault` is never raised, and the caller's remaining events are dutiful still; so from a machine in order every run,
however long, ends in a state a claim may speak of. -/
def Obligations.DutifulCallerIsServed : Prop :=
  ∀ s : State, Admitted s.cfg → s.Dutiful →
    (∀ r, step s ≠ .refused r) ∧
    (∀ t, step s = .next t → Admitted t.cfg ∧ t.Dutiful ∧ (s.Claimable → t.Claimable)) ∧
    (s.InOrder → s.Claimable → ∀ n, ∃ t, claimedRun n s = .next t ∧ t.InOrder ∧ t.Claimable)

/-- R121 to R136: a transaction whose writes are taken and whose response is delivered whole and valid, with any number
of would-block answers before the deadline, ends OK in exactly its number of steps, with its outputs committed, its
whole request on the line, nothing consumed beyond it, and the commands the caller holds back waiting still. It is a claim
about a run, so a set `busy_fault` makes it a fault (R188). -/
def Obligations.TransactionCompletes : Prop :=
  ∀ (s : State) (op : Op) (tmo : Bool) (arg : Half) (r : List Byte) (p ps : List PollAnswer) (ws : List WriteAnswer)
    (ts : List Bool) (rest : List CallerEvent),
    s.fsm = .idle → s.writeStuck = false → s.port = .offerIdle (commandWord tmo op.code arg) :: rest → HeldBack rest →
    argOk s.cfg op arg = true →
    s.writes = List.replicate (txLenOf op) .ok ++ ws → s.polls = p ++ ps → Delivers p r →
    r.length = rxLenOf op → frameValidate s.cfg r (rxLenOf op) s.devAddr = .ok →
    s.timer = (if tmo then List.replicate (wouldBlocks p) false else []) ++ ts →
    claimedRun (txLenOf op + p.length + 3) s =
      ((s.ended op tmo arg (txLenOf op) .ok rest ws ps ts).withOutputs op arg r).settled

/-- R125, R128, R133, R157: a transaction with `tmo` whose deadline has elapsed at a would-block answer before the
response is whole ends in Timeout, with no output changed; a set `busy_fault` makes the run a fault (R188). -/
def Obligations.DeadlineEndsTransaction : Prop :=
  ∀ (s : State) (op : Op) (arg : Half) (p ps : List PollAnswer) (ws : List WriteAnswer) (ts : List Bool)
    (rest : List CallerEvent),
    s.fsm = .idle → s.writeStuck = false → s.port = .offerIdle (commandWord true op.code arg) :: rest → HeldBack rest →
    argOk s.cfg op arg = true →
    s.writes = List.replicate (txLenOf op) .ok ++ ws → s.polls = p ++ .wouldBlock :: ps → PollAnswer.err ∉ p →
    (p.filterMap PollAnswer.byte?).length < rxLenOf op →
    s.timer = List.replicate (wouldBlocks p) false ++ true :: ts →
    claimedRun (txLenOf op + p.length + 3) s =
      { s.ended op true arg (txLenOf op) (.error .timeout) rest ws ps ts with err := .timeout }.settled

/-- R123, R131, R133, R223: a write error after `k` bytes ends the transaction in TransportWrite, those `k` bytes stay
on the line, and no output changes; a set `busy_fault` makes the run a fault (R188). -/
def Obligations.WriteErrorLeavesFragment : Prop :=
  ∀ (s : State) (op : Op) (tmo : Bool) (arg : Half) (k : Nat) (ws : List WriteAnswer)
    (rest : List CallerEvent),
    s.fsm = .idle → s.writeStuck = false → s.port = .offerIdle (commandWord tmo op.code arg) :: rest → HeldBack rest →
    argOk s.cfg op arg = true →
    k < txLenOf op → s.writes = List.replicate k .ok ++ .err :: ws →
    claimedRun (k + 3) s =
      { s.ended op tmo arg k (.error .transportWrite) rest ws s.polls s.timer with err := .transportWrite }.settled

/-- R130: without a timeout specification a silent transport holds the engine in RECEIVING: any number of would-block
answers changes nothing but the answers consumed, whatever pauses and held-back commands the caller has on the port; a set
`busy_fault` makes the run a fault (R188). -/
def Obligations.SilenceWithoutTimeoutHangs : Prop :=
  ∀ (s : State) (n pauses : Nat) (rest : List CallerEvent) (ps : List PollAnswer),
    s.port = List.replicate pauses .pause ++ rest → HeldBack rest → s.fsm = .receiving → s.rxCnt < s.rxLen →
    s.tmo = false → s.polls = List.replicate n .wouldBlock ++ ps →
    claimedRun n s = { s with polls := ps, port := List.replicate (pauses - n) CallerEvent.pause ++ rest }.settled

/-- R135, R195, R226: a write that never returns takes no byte and holds the engine in SENDING for ever: no timeout ends
it, the timer is not asked, and until a reset no step changes anything but the caller's events (and, for an offer, which
R188 makes a fault, `busy_fault`). That a step is taken where none is enabled, and that a reset ends the hang, are the
model's (log entry 21). -/
def Obligations.HungWriteHoldsSending : Prop :=
  ∀ (s : State) (b : Byte) (ws : List WriteAnswer), s.fsm = .sending →
    (s.writeStuck = false → s.txIdx < s.txLen → s.txBuf[s.txIdx]? = some b → s.writes = .never :: ws →
      engineStep s = .next { s with writes := ws, writeStuck := true }) ∧
    (s.writeStuck = true →
      engineStep s = .next s ∧
      (HeldBack s.port → ∀ n, claimedRun n s = s.settled) ∧
      (.reset ∉ s.port → ∀ n t, claimedRun n s = .next t → t = { s with port := t.port }))
end

