-- ==== Sys2Proof/Laws/Assembler.lean ====
section
/-! SUPPORT. What the parts of the assembler (R77) do: words of a line, digits of a number, operand tokens. -/

namespace Sys2Proof.Machine

/-! ### Words -/

/-- A word followed by a space is the first token. -/
theorem tokens_append {w l : List Char} (hw : w ≠ []) (hs : ' ' ∉ w) : tokens (w ++ ' ' :: l) = w :: tokens l := by
  induction w with
  | nil => exact absurd rfl hw
  | cons c w ih =>
    simp only [List.mem_cons, not_or] at hs
    have hc : c ≠ ' ' := fun h => hs.1 h.symm
    cases w with
    | nil => simp [tokens, hc]
    | cons d w =>
      have hd : d ≠ ' ' := fun h => hs.2 (by simp [h])
      have ht := ih (by simp) hs.2
      simp only [List.cons_append] at ht ⊢
      rw [tokens, if_neg hc]
      simp only [hd, if_false, ht]

/-- A word alone is the only token. -/
theorem tokens_word {w : List Char} (hw : w ≠ []) (hs : ' ' ∉ w) : tokens w = [w] := by
  induction w with
  | nil => exact absurd rfl hw
  | cons c w ih =>
    simp only [List.mem_cons, not_or] at hs
    have hc : c ≠ ' ' := fun h => hs.1 h.symm
    cases w with
    | nil => simp [tokens, hc]
    | cons d w =>
      have hd : d ≠ ' ' := fun h => hs.2 (by simp [h])
      rw [tokens, if_neg hc]
      simp only [hd, if_false, ih (by simp) hs.2]

/-! ### Digits -/

theorem digits?_append (base acc : Nat) (l m : List Char) :
    digits? base acc (l ++ m) = (digits? base acc l).bind (fun n => digits? base n m) := by
  induction l generalizing acc with
  | nil => rfl
  | cons c l ih =>
    simp only [List.cons_append, digits?]
    split
    · exact ih _
    · rfl

/-- The text of a digit is read as that digit. -/
theorem Spelling.digit?_digit (sp : Spelling) {d : Nat} (h : d < sp.base) : digit? sp.base (sp.digit d) = some d := by
  cases sp <;> revert d <;> decide

/-- The text of a digit is neither a space nor the `x` of the mark. -/
theorem Spelling.digit_ne (sp : Spelling) {d : Nat} (h : d < sp.base) : sp.digit d ≠ ' ' ∧ sp.digit d ≠ 'x' := by
  cases sp <;> revert d <;> decide

theorem Spelling.base_pos (sp : Spelling) : 0 < sp.base := by cases sp <;> decide

/-- The digits of a number are read as that number. -/
theorem Spelling.digits?_digits (sp : Spelling) (k n : Nat) (h : n < sp.base ^ k) :
    digits? sp.base 0 (sp.digits k n) = some n := by
  induction k generalizing n with
  | zero => simp at h; subst h; rfl
  | succ k ih =>
    have hm := sp.digit?_digit (Nat.mod_lt n sp.base_pos)
    unfold Spelling.digits
    rw [digits?_append]
    split
    · next hn => rw [Nat.mod_eq_of_lt hn] at hm ⊢; simp [digits?, hm]
    · rw [ih _ (Nat.div_lt_of_lt_mul (by rwa [Nat.pow_succ'] at h))]
      simp [digits?, hm, Nat.div_add_mod']

/-- Leading zeros change nothing. -/
theorem digits?_zeros (base zeros : Nat) (hb : 0 < base) (l : List Char) :
    digits? base 0 (List.replicate zeros '0' ++ l) = digits? base 0 l := by
  have h0 : digit? base '0' = some 0 := by simp [digit?, hb]
  induction zeros with
  | zero => rfl
  | succ z ih => simp [List.replicate_succ, digits?, h0, ih]

theorem Spelling.mem_digits (sp : Spelling) {k n : Nat} {c : Char} (h : c ∈ sp.digits k n) : c ≠ ' ' ∧ c ≠ 'x' := by
  induction k generalizing n with
  | zero => simp [Spelling.digits] at h
  | succ k ih =>
    unfold Spelling.digits at h
    rcases List.mem_append.1 h with h | h
    · split at h
      · cases h
      · exact ih h
    · rw [List.mem_singleton.1 h]; exact sp.digit_ne (Nat.mod_lt n sp.base_pos)

theorem Spelling.digits_ne_nil (sp : Spelling) (k n : Nat) : sp.digits (k + 1) n ≠ [] := by
  simp [Spelling.digits]

/-! ### Operands -/

/-- A nonempty token without an `x` is decimal. -/
theorem operandToken?_decimal {t : List Char} (hne : t ≠ []) (hx : 'x' ∉ t) {v : Nat} (hd : digits? 10 0 t = some v)
    (hv : v < 2 ^ 16) : operandToken? t = some (BitVec.ofNat 16 v) := by
  unfold operandToken?
  split <;> simp_all

/-- A nonempty token after `0x` is hexadecimal. -/
theorem operandToken?_hex {t : List Char} (hne : t ≠ []) {v : Nat} (hd : digits? 16 0 t = some v) (hv : v < 2 ^ 16) :
    operandToken? ('0' :: 'x' :: t) = some (BitVec.ofNat 16 v) := by
  unfold operandToken?
  split <;> simp_all

end Sys2Proof.Machine
end

