-- ==== Sys2Proof/Laws/Decode.lean ====
section
/-! SUPPORT. The fields of a command word put together from its fields. -/

namespace Sys2Proof

@[simp] theorem tmoField_commandWord (tmo : Bool) (op : BitVec 3) (arg : Half) :
    tmoField (commandWord tmo op arg) = tmo := by
  simp [tmoField, commandWord, BitVec.getLsbD_of_ge]

@[simp] theorem argField_commandWord (tmo : Bool) (op : BitVec 3) (arg : Half) :
    argField (commandWord tmo op arg) = arg := by
  refine BitVec.eq_of_getLsbD_eq fun i hi => ?_
  have h19 : i < 19 := by omega
  simp [argField, commandWord, hi, h19]
  omega

@[simp] theorem opField_commandWord (tmo : Bool) (op : BitVec 3) (arg : Half) :
    opField (commandWord tmo op arg) = op := by
  refine BitVec.eq_of_getLsbD_eq fun i hi => ?_
  have h19 : 16 + i < 19 := by omega
  have h20 : 16 + i < 20 := by omega
  simp [opField, commandWord, h19, h20, BitVec.getLsbD_of_ge]
  exact fun _ => hi

end Sys2Proof
end

