-- ==== Sys2Proof/Laws/State.lean ====
section
/-! SUPPORT. One lemma per field per named update of `State`, so that no later proof unfolds a record update. -/

namespace Sys2Proof.Machine

variable (s : State)

/-! ### `State.raiseBusy` -/

@[simp] theorem State.raiseBusy_cfg : (s.raiseBusy).cfg = s.cfg := rfl
@[simp] theorem State.raiseBusy_fsm : (s.raiseBusy).fsm = s.fsm := rfl
@[simp] theorem State.raiseBusy_op : (s.raiseBusy).op = s.op := rfl
@[simp] theorem State.raiseBusy_arg : (s.raiseBusy).arg = s.arg := rfl
@[simp] theorem State.raiseBusy_tmo : (s.raiseBusy).tmo = s.tmo := rfl
@[simp] theorem State.raiseBusy_devAddr : (s.raiseBusy).devAddr = s.devAddr := rfl
@[simp] theorem State.raiseBusy_txBuf : (s.raiseBusy).txBuf = s.txBuf := rfl
@[simp] theorem State.raiseBusy_txLen : (s.raiseBusy).txLen = s.txLen := rfl
@[simp] theorem State.raiseBusy_txIdx : (s.raiseBusy).txIdx = s.txIdx := rfl
@[simp] theorem State.raiseBusy_rxBuf : (s.raiseBusy).rxBuf = s.rxBuf := rfl
@[simp] theorem State.raiseBusy_rxLen : (s.raiseBusy).rxLen = s.rxLen := rfl
@[simp] theorem State.raiseBusy_rxCnt : (s.raiseBusy).rxCnt = s.rxCnt := rfl
@[simp] theorem State.raiseBusy_err : (s.raiseBusy).err = s.err := rfl
@[simp] theorem State.raiseBusy_result : (s.raiseBusy).result = s.result := rfl
@[simp] theorem State.raiseBusy_meas : (s.raiseBusy).meas = s.meas := rfl
@[simp] theorem State.raiseBusy_thrOut : (s.raiseBusy).thrOut = s.thrOut := rfl
@[simp] theorem State.raiseBusy_busyFault : (s.raiseBusy).busyFault = true := rfl
@[simp] theorem State.raiseBusy_port : (s.raiseBusy).port = s.port := rfl
@[simp] theorem State.raiseBusy_writes : (s.raiseBusy).writes = s.writes := rfl
@[simp] theorem State.raiseBusy_polls : (s.raiseBusy).polls = s.polls := rfl
@[simp] theorem State.raiseBusy_timer : (s.raiseBusy).timer = s.timer := rfl
@[simp] theorem State.raiseBusy_writeStuck : (s.raiseBusy).writeStuck = s.writeStuck := rfl
@[simp] theorem State.raiseBusy_line : (s.raiseBusy).line = s.line := rfl
@[simp] theorem State.raiseBusy_timerStarts : (s.raiseBusy).timerStarts = s.timerStarts := rfl
@[simp] theorem State.raiseBusy_draws : (s.raiseBusy).draws = s.draws := rfl
@[simp] theorem State.raiseBusy_fnResult : (s.raiseBusy).fnResult = s.fnResult := rfl

/-! ### `State.enter` -/

@[simp] theorem State.enter_cfg (q : Fsm) : (s.enter q).cfg = s.cfg := rfl
@[simp] theorem State.enter_fsm (q : Fsm) : (s.enter q).fsm = q := rfl
@[simp] theorem State.enter_op (q : Fsm) : (s.enter q).op = s.op := rfl
@[simp] theorem State.enter_arg (q : Fsm) : (s.enter q).arg = s.arg := rfl
@[simp] theorem State.enter_tmo (q : Fsm) : (s.enter q).tmo = s.tmo := rfl
@[simp] theorem State.enter_devAddr (q : Fsm) : (s.enter q).devAddr = s.devAddr := rfl
@[simp] theorem State.enter_txBuf (q : Fsm) : (s.enter q).txBuf = s.txBuf := rfl
@[simp] theorem State.enter_txLen (q : Fsm) : (s.enter q).txLen = s.txLen := rfl
@[simp] theorem State.enter_txIdx (q : Fsm) : (s.enter q).txIdx = s.txIdx := rfl
@[simp] theorem State.enter_rxBuf (q : Fsm) : (s.enter q).rxBuf = s.rxBuf := rfl
@[simp] theorem State.enter_rxLen (q : Fsm) : (s.enter q).rxLen = s.rxLen := rfl
@[simp] theorem State.enter_rxCnt (q : Fsm) : (s.enter q).rxCnt = s.rxCnt := rfl
@[simp] theorem State.enter_err (q : Fsm) : (s.enter q).err = s.err := rfl
@[simp] theorem State.enter_result (q : Fsm) : (s.enter q).result = s.result := rfl
@[simp] theorem State.enter_meas (q : Fsm) : (s.enter q).meas = s.meas := rfl
@[simp] theorem State.enter_thrOut (q : Fsm) : (s.enter q).thrOut = s.thrOut := rfl
@[simp] theorem State.enter_busyFault (q : Fsm) : (s.enter q).busyFault = s.busyFault := rfl
@[simp] theorem State.enter_port (q : Fsm) : (s.enter q).port = s.port := rfl
@[simp] theorem State.enter_writes (q : Fsm) : (s.enter q).writes = s.writes := rfl
@[simp] theorem State.enter_polls (q : Fsm) : (s.enter q).polls = s.polls := rfl
@[simp] theorem State.enter_timer (q : Fsm) : (s.enter q).timer = s.timer := rfl
@[simp] theorem State.enter_writeStuck (q : Fsm) : (s.enter q).writeStuck = s.writeStuck := rfl
@[simp] theorem State.enter_line (q : Fsm) : (s.enter q).line = s.line := rfl
@[simp] theorem State.enter_timerStarts (q : Fsm) : (s.enter q).timerStarts = s.timerStarts := rfl
@[simp] theorem State.enter_draws (q : Fsm) : (s.enter q).draws = s.draws := rfl
@[simp] theorem State.enter_fnResult (q : Fsm) : (s.enter q).fnResult = s.fnResult := rfl

/-! ### `State.setPort` -/

@[simp] theorem State.setPort_cfg (es : List CallerEvent) : (s.setPort es).cfg = s.cfg := rfl
@[simp] theorem State.setPort_fsm (es : List CallerEvent) : (s.setPort es).fsm = s.fsm := rfl
@[simp] theorem State.setPort_op (es : List CallerEvent) : (s.setPort es).op = s.op := rfl
@[simp] theorem State.setPort_arg (es : List CallerEvent) : (s.setPort es).arg = s.arg := rfl
@[simp] theorem State.setPort_tmo (es : List CallerEvent) : (s.setPort es).tmo = s.tmo := rfl
@[simp] theorem State.setPort_devAddr (es : List CallerEvent) : (s.setPort es).devAddr = s.devAddr := rfl
@[simp] theorem State.setPort_txBuf (es : List CallerEvent) : (s.setPort es).txBuf = s.txBuf := rfl
@[simp] theorem State.setPort_txLen (es : List CallerEvent) : (s.setPort es).txLen = s.txLen := rfl
@[simp] theorem State.setPort_txIdx (es : List CallerEvent) : (s.setPort es).txIdx = s.txIdx := rfl
@[simp] theorem State.setPort_rxBuf (es : List CallerEvent) : (s.setPort es).rxBuf = s.rxBuf := rfl
@[simp] theorem State.setPort_rxLen (es : List CallerEvent) : (s.setPort es).rxLen = s.rxLen := rfl
@[simp] theorem State.setPort_rxCnt (es : List CallerEvent) : (s.setPort es).rxCnt = s.rxCnt := rfl
@[simp] theorem State.setPort_err (es : List CallerEvent) : (s.setPort es).err = s.err := rfl
@[simp] theorem State.setPort_result (es : List CallerEvent) : (s.setPort es).result = s.result := rfl
@[simp] theorem State.setPort_meas (es : List CallerEvent) : (s.setPort es).meas = s.meas := rfl
@[simp] theorem State.setPort_thrOut (es : List CallerEvent) : (s.setPort es).thrOut = s.thrOut := rfl
@[simp] theorem State.setPort_busyFault (es : List CallerEvent) : (s.setPort es).busyFault = s.busyFault := rfl
@[simp] theorem State.setPort_port (es : List CallerEvent) : (s.setPort es).port = es := rfl
@[simp] theorem State.setPort_writes (es : List CallerEvent) : (s.setPort es).writes = s.writes := rfl
@[simp] theorem State.setPort_polls (es : List CallerEvent) : (s.setPort es).polls = s.polls := rfl
@[simp] theorem State.setPort_timer (es : List CallerEvent) : (s.setPort es).timer = s.timer := rfl
@[simp] theorem State.setPort_writeStuck (es : List CallerEvent) : (s.setPort es).writeStuck = s.writeStuck := rfl
@[simp] theorem State.setPort_line (es : List CallerEvent) : (s.setPort es).line = s.line := rfl
@[simp] theorem State.setPort_timerStarts (es : List CallerEvent) : (s.setPort es).timerStarts = s.timerStarts := rfl
@[simp] theorem State.setPort_draws (es : List CallerEvent) : (s.setPort es).draws = s.draws := rfl
@[simp] theorem State.setPort_fnResult (es : List CallerEvent) : (s.setPort es).fnResult = s.fnResult := rfl

/-! ### `State.latch` -/

@[simp] theorem State.latch_cfg (op : Op) (tmo : Bool) (arg : Half) : (s.latch op tmo arg).cfg = s.cfg := rfl
@[simp] theorem State.latch_fsm (op : Op) (tmo : Bool) (arg : Half) : (s.latch op tmo arg).fsm = s.fsm := rfl
@[simp] theorem State.latch_op (op : Op) (tmo : Bool) (arg : Half) : (s.latch op tmo arg).op = op := rfl
@[simp] theorem State.latch_arg (op : Op) (tmo : Bool) (arg : Half) : (s.latch op tmo arg).arg = arg := rfl
@[simp] theorem State.latch_tmo (op : Op) (tmo : Bool) (arg : Half) : (s.latch op tmo arg).tmo = tmo := rfl
@[simp] theorem State.latch_devAddr (op : Op) (tmo : Bool) (arg : Half) : (s.latch op tmo arg).devAddr = s.devAddr := rfl
@[simp] theorem State.latch_txBuf (op : Op) (tmo : Bool) (arg : Half) : (s.latch op tmo arg).txBuf = s.txBuf := rfl
@[simp] theorem State.latch_txLen (op : Op) (tmo : Bool) (arg : Half) : (s.latch op tmo arg).txLen = s.txLen := rfl
@[simp] theorem State.latch_txIdx (op : Op) (tmo : Bool) (arg : Half) : (s.latch op tmo arg).txIdx = s.txIdx := rfl
@[simp] theorem State.latch_rxBuf (op : Op) (tmo : Bool) (arg : Half) : (s.latch op tmo arg).rxBuf = s.rxBuf := rfl
@[simp] theorem State.latch_rxLen (op : Op) (tmo : Bool) (arg : Half) : (s.latch op tmo arg).rxLen = s.rxLen := rfl
@[simp] theorem State.latch_rxCnt (op : Op) (tmo : Bool) (arg : Half) : (s.latch op tmo arg).rxCnt = s.rxCnt := rfl
@[simp] theorem State.latch_err (op : Op) (tmo : Bool) (arg : Half) : (s.latch op tmo arg).err = s.err := rfl
@[simp] theorem State.latch_result (op : Op) (tmo : Bool) (arg : Half) : (s.latch op tmo arg).result = s.result := rfl
@[simp] theorem State.latch_meas (op : Op) (tmo : Bool) (arg : Half) : (s.latch op tmo arg).meas = s.meas := rfl
@[simp] theorem State.latch_thrOut (op : Op) (tmo : Bool) (arg : Half) : (s.latch op tmo arg).thrOut = s.thrOut := rfl
@[simp] theorem State.latch_busyFault (op : Op) (tmo : Bool) (arg : Half) : (s.latch op tmo arg).busyFault = s.busyFault := rfl
@[simp] theorem State.latch_port (op : Op) (tmo : Bool) (arg : Half) : (s.latch op tmo arg).port = s.port := rfl
@[simp] theorem State.latch_writes (op : Op) (tmo : Bool) (arg : Half) : (s.latch op tmo arg).writes = s.writes := rfl
@[simp] theorem State.latch_polls (op : Op) (tmo : Bool) (arg : Half) : (s.latch op tmo arg).polls = s.polls := rfl
@[simp] theorem State.latch_timer (op : Op) (tmo : Bool) (arg : Half) : (s.latch op tmo arg).timer = s.timer := rfl
@[simp] theorem State.latch_writeStuck (op : Op) (tmo : Bool) (arg : Half) : (s.latch op tmo arg).writeStuck = s.writeStuck := rfl
@[simp] theorem State.latch_line (op : Op) (tmo : Bool) (arg : Half) : (s.latch op tmo arg).line = s.line := rfl
@[simp] theorem State.latch_timerStarts (op : Op) (tmo : Bool) (arg : Half) : (s.latch op tmo arg).timerStarts = s.timerStarts := rfl
@[simp] theorem State.latch_draws (op : Op) (tmo : Bool) (arg : Half) : (s.latch op tmo arg).draws = s.draws := rfl
@[simp] theorem State.latch_fnResult (op : Op) (tmo : Bool) (arg : Half) : (s.latch op tmo arg).fnResult = s.fnResult := rfl

/-! ### `State.load` -/

@[simp] theorem State.load_cfg (f : List Byte) (n : Nat) : (s.load f n).cfg = s.cfg := rfl
@[simp] theorem State.load_fsm (f : List Byte) (n : Nat) : (s.load f n).fsm = s.fsm := rfl
@[simp] theorem State.load_op (f : List Byte) (n : Nat) : (s.load f n).op = s.op := rfl
@[simp] theorem State.load_arg (f : List Byte) (n : Nat) : (s.load f n).arg = s.arg := rfl
@[simp] theorem State.load_tmo (f : List Byte) (n : Nat) : (s.load f n).tmo = s.tmo := rfl
@[simp] theorem State.load_devAddr (f : List Byte) (n : Nat) : (s.load f n).devAddr = s.devAddr := rfl
@[simp] theorem State.load_txBuf (f : List Byte) (n : Nat) : (s.load f n).txBuf = f := rfl
@[simp] theorem State.load_txLen (f : List Byte) (n : Nat) : (s.load f n).txLen = f.length := rfl
@[simp] theorem State.load_txIdx (f : List Byte) (n : Nat) : (s.load f n).txIdx = 0 := rfl
@[simp] theorem State.load_rxBuf (f : List Byte) (n : Nat) : (s.load f n).rxBuf = [] := rfl
@[simp] theorem State.load_rxLen (f : List Byte) (n : Nat) : (s.load f n).rxLen = n := rfl
@[simp] theorem State.load_rxCnt (f : List Byte) (n : Nat) : (s.load f n).rxCnt = 0 := rfl
@[simp] theorem State.load_err (f : List Byte) (n : Nat) : (s.load f n).err = s.err := rfl
@[simp] theorem State.load_result (f : List Byte) (n : Nat) : (s.load f n).result = s.result := rfl
@[simp] theorem State.load_meas (f : List Byte) (n : Nat) : (s.load f n).meas = s.meas := rfl
@[simp] theorem State.load_thrOut (f : List Byte) (n : Nat) : (s.load f n).thrOut = s.thrOut := rfl
@[simp] theorem State.load_busyFault (f : List Byte) (n : Nat) : (s.load f n).busyFault = s.busyFault := rfl
@[simp] theorem State.load_port (f : List Byte) (n : Nat) : (s.load f n).port = s.port := rfl
@[simp] theorem State.load_writes (f : List Byte) (n : Nat) : (s.load f n).writes = s.writes := rfl
@[simp] theorem State.load_polls (f : List Byte) (n : Nat) : (s.load f n).polls = s.polls := rfl
@[simp] theorem State.load_timer (f : List Byte) (n : Nat) : (s.load f n).timer = s.timer := rfl
@[simp] theorem State.load_writeStuck (f : List Byte) (n : Nat) : (s.load f n).writeStuck = s.writeStuck := rfl
@[simp] theorem State.load_line (f : List Byte) (n : Nat) : (s.load f n).line = s.line := rfl
@[simp] theorem State.load_timerStarts (f : List Byte) (n : Nat) : (s.load f n).timerStarts = s.timerStarts := rfl
@[simp] theorem State.load_draws (f : List Byte) (n : Nat) : (s.load f n).draws = s.draws := rfl
@[simp] theorem State.load_fnResult (f : List Byte) (n : Nat) : (s.load f n).fnResult = s.fnResult := rfl

/-! ### `State.startTimer` -/

@[simp] theorem State.startTimer_cfg : (s.startTimer).cfg = s.cfg := rfl
@[simp] theorem State.startTimer_fsm : (s.startTimer).fsm = s.fsm := rfl
@[simp] theorem State.startTimer_op : (s.startTimer).op = s.op := rfl
@[simp] theorem State.startTimer_arg : (s.startTimer).arg = s.arg := rfl
@[simp] theorem State.startTimer_tmo : (s.startTimer).tmo = s.tmo := rfl
@[simp] theorem State.startTimer_devAddr : (s.startTimer).devAddr = s.devAddr := rfl
@[simp] theorem State.startTimer_txBuf : (s.startTimer).txBuf = s.txBuf := rfl
@[simp] theorem State.startTimer_txLen : (s.startTimer).txLen = s.txLen := rfl
@[simp] theorem State.startTimer_txIdx : (s.startTimer).txIdx = s.txIdx := rfl
@[simp] theorem State.startTimer_rxBuf : (s.startTimer).rxBuf = s.rxBuf := rfl
@[simp] theorem State.startTimer_rxLen : (s.startTimer).rxLen = s.rxLen := rfl
@[simp] theorem State.startTimer_rxCnt : (s.startTimer).rxCnt = s.rxCnt := rfl
@[simp] theorem State.startTimer_err : (s.startTimer).err = s.err := rfl
@[simp] theorem State.startTimer_result : (s.startTimer).result = s.result := rfl
@[simp] theorem State.startTimer_meas : (s.startTimer).meas = s.meas := rfl
@[simp] theorem State.startTimer_thrOut : (s.startTimer).thrOut = s.thrOut := rfl
@[simp] theorem State.startTimer_busyFault : (s.startTimer).busyFault = s.busyFault := rfl
@[simp] theorem State.startTimer_port : (s.startTimer).port = s.port := rfl
@[simp] theorem State.startTimer_writes : (s.startTimer).writes = s.writes := rfl
@[simp] theorem State.startTimer_polls : (s.startTimer).polls = s.polls := rfl
@[simp] theorem State.startTimer_timer : (s.startTimer).timer = s.timer := rfl
@[simp] theorem State.startTimer_writeStuck : (s.startTimer).writeStuck = s.writeStuck := rfl
@[simp] theorem State.startTimer_line : (s.startTimer).line = s.line := rfl
@[simp] theorem State.startTimer_timerStarts : (s.startTimer).timerStarts = s.timerStarts + 1 := rfl
@[simp] theorem State.startTimer_draws : (s.startTimer).draws = s.draws := rfl
@[simp] theorem State.startTimer_fnResult : (s.startTimer).fnResult = s.fnResult := rfl

/-! ### `State.sent` -/

@[simp] theorem State.sent_cfg (b : Byte) : (s.sent b).cfg = s.cfg := rfl
@[simp] theorem State.sent_fsm (b : Byte) : (s.sent b).fsm = s.fsm := rfl
@[simp] theorem State.sent_op (b : Byte) : (s.sent b).op = s.op := rfl
@[simp] theorem State.sent_arg (b : Byte) : (s.sent b).arg = s.arg := rfl
@[simp] theorem State.sent_tmo (b : Byte) : (s.sent b).tmo = s.tmo := rfl
@[simp] theorem State.sent_devAddr (b : Byte) : (s.sent b).devAddr = s.devAddr := rfl
@[simp] theorem State.sent_txBuf (b : Byte) : (s.sent b).txBuf = s.txBuf := rfl
@[simp] theorem State.sent_txLen (b : Byte) : (s.sent b).txLen = s.txLen := rfl
@[simp] theorem State.sent_txIdx (b : Byte) : (s.sent b).txIdx = s.txIdx + 1 := rfl
@[simp] theorem State.sent_rxBuf (b : Byte) : (s.sent b).rxBuf = s.rxBuf := rfl
@[simp] theorem State.sent_rxLen (b : Byte) : (s.sent b).rxLen = s.rxLen := rfl
@[simp] theorem State.sent_rxCnt (b : Byte) : (s.sent b).rxCnt = s.rxCnt := rfl
@[simp] theorem State.sent_err (b : Byte) : (s.sent b).err = s.err := rfl
@[simp] theorem State.sent_result (b : Byte) : (s.sent b).result = s.result := rfl
@[simp] theorem State.sent_meas (b : Byte) : (s.sent b).meas = s.meas := rfl
@[simp] theorem State.sent_thrOut (b : Byte) : (s.sent b).thrOut = s.thrOut := rfl
@[simp] theorem State.sent_busyFault (b : Byte) : (s.sent b).busyFault = s.busyFault := rfl
@[simp] theorem State.sent_port (b : Byte) : (s.sent b).port = s.port := rfl
@[simp] theorem State.sent_writes (b : Byte) : (s.sent b).writes = s.writes := rfl
@[simp] theorem State.sent_polls (b : Byte) : (s.sent b).polls = s.polls := rfl
@[simp] theorem State.sent_timer (b : Byte) : (s.sent b).timer = s.timer := rfl
@[simp] theorem State.sent_writeStuck (b : Byte) : (s.sent b).writeStuck = s.writeStuck := rfl
@[simp] theorem State.sent_line (b : Byte) : (s.sent b).line = s.line ++ [b] := rfl
@[simp] theorem State.sent_timerStarts (b : Byte) : (s.sent b).timerStarts = s.timerStarts := rfl
@[simp] theorem State.sent_draws (b : Byte) : (s.sent b).draws = s.draws := rfl
@[simp] theorem State.sent_fnResult (b : Byte) : (s.sent b).fnResult = s.fnResult := rfl

/-! ### `State.holdWrite` -/

@[simp] theorem State.holdWrite_cfg : (s.holdWrite).cfg = s.cfg := rfl
@[simp] theorem State.holdWrite_fsm : (s.holdWrite).fsm = s.fsm := rfl
@[simp] theorem State.holdWrite_op : (s.holdWrite).op = s.op := rfl
@[simp] theorem State.holdWrite_arg : (s.holdWrite).arg = s.arg := rfl
@[simp] theorem State.holdWrite_tmo : (s.holdWrite).tmo = s.tmo := rfl
@[simp] theorem State.holdWrite_devAddr : (s.holdWrite).devAddr = s.devAddr := rfl
@[simp] theorem State.holdWrite_txBuf : (s.holdWrite).txBuf = s.txBuf := rfl
@[simp] theorem State.holdWrite_txLen : (s.holdWrite).txLen = s.txLen := rfl
@[simp] theorem State.holdWrite_txIdx : (s.holdWrite).txIdx = s.txIdx := rfl
@[simp] theorem State.holdWrite_rxBuf : (s.holdWrite).rxBuf = s.rxBuf := rfl
@[simp] theorem State.holdWrite_rxLen : (s.holdWrite).rxLen = s.rxLen := rfl
@[simp] theorem State.holdWrite_rxCnt : (s.holdWrite).rxCnt = s.rxCnt := rfl
@[simp] theorem State.holdWrite_err : (s.holdWrite).err = s.err := rfl
@[simp] theorem State.holdWrite_result : (s.holdWrite).result = s.result := rfl
@[simp] theorem State.holdWrite_meas : (s.holdWrite).meas = s.meas := rfl
@[simp] theorem State.holdWrite_thrOut : (s.holdWrite).thrOut = s.thrOut := rfl
@[simp] theorem State.holdWrite_busyFault : (s.holdWrite).busyFault = s.busyFault := rfl
@[simp] theorem State.holdWrite_port : (s.holdWrite).port = s.port := rfl
@[simp] theorem State.holdWrite_writes : (s.holdWrite).writes = s.writes := rfl
@[simp] theorem State.holdWrite_polls : (s.holdWrite).polls = s.polls := rfl
@[simp] theorem State.holdWrite_timer : (s.holdWrite).timer = s.timer := rfl
@[simp] theorem State.holdWrite_writeStuck : (s.holdWrite).writeStuck = true := rfl
@[simp] theorem State.holdWrite_line : (s.holdWrite).line = s.line := rfl
@[simp] theorem State.holdWrite_timerStarts : (s.holdWrite).timerStarts = s.timerStarts := rfl
@[simp] theorem State.holdWrite_draws : (s.holdWrite).draws = s.draws := rfl
@[simp] theorem State.holdWrite_fnResult : (s.holdWrite).fnResult = s.fnResult := rfl

/-! ### `State.setMeas` -/

@[simp] theorem State.setMeas_cfg (m : Measurement) : (s.setMeas m).cfg = s.cfg := rfl
@[simp] theorem State.setMeas_fsm (m : Measurement) : (s.setMeas m).fsm = s.fsm := rfl
@[simp] theorem State.setMeas_op (m : Measurement) : (s.setMeas m).op = s.op := rfl
@[simp] theorem State.setMeas_arg (m : Measurement) : (s.setMeas m).arg = s.arg := rfl
@[simp] theorem State.setMeas_tmo (m : Measurement) : (s.setMeas m).tmo = s.tmo := rfl
@[simp] theorem State.setMeas_devAddr (m : Measurement) : (s.setMeas m).devAddr = s.devAddr := rfl
@[simp] theorem State.setMeas_txBuf (m : Measurement) : (s.setMeas m).txBuf = s.txBuf := rfl
@[simp] theorem State.setMeas_txLen (m : Measurement) : (s.setMeas m).txLen = s.txLen := rfl
@[simp] theorem State.setMeas_txIdx (m : Measurement) : (s.setMeas m).txIdx = s.txIdx := rfl
@[simp] theorem State.setMeas_rxBuf (m : Measurement) : (s.setMeas m).rxBuf = s.rxBuf := rfl
@[simp] theorem State.setMeas_rxLen (m : Measurement) : (s.setMeas m).rxLen = s.rxLen := rfl
@[simp] theorem State.setMeas_rxCnt (m : Measurement) : (s.setMeas m).rxCnt = s.rxCnt := rfl
@[simp] theorem State.setMeas_err (m : Measurement) : (s.setMeas m).err = s.err := rfl
@[simp] theorem State.setMeas_result (m : Measurement) : (s.setMeas m).result = s.result := rfl
@[simp] theorem State.setMeas_meas (m : Measurement) : (s.setMeas m).meas = m := rfl
@[simp] theorem State.setMeas_thrOut (m : Measurement) : (s.setMeas m).thrOut = s.thrOut := rfl
@[simp] theorem State.setMeas_busyFault (m : Measurement) : (s.setMeas m).busyFault = s.busyFault := rfl
@[simp] theorem State.setMeas_port (m : Measurement) : (s.setMeas m).port = s.port := rfl
@[simp] theorem State.setMeas_writes (m : Measurement) : (s.setMeas m).writes = s.writes := rfl
@[simp] theorem State.setMeas_polls (m : Measurement) : (s.setMeas m).polls = s.polls := rfl
@[simp] theorem State.setMeas_timer (m : Measurement) : (s.setMeas m).timer = s.timer := rfl
@[simp] theorem State.setMeas_writeStuck (m : Measurement) : (s.setMeas m).writeStuck = s.writeStuck := rfl
@[simp] theorem State.setMeas_line (m : Measurement) : (s.setMeas m).line = s.line := rfl
@[simp] theorem State.setMeas_timerStarts (m : Measurement) : (s.setMeas m).timerStarts = s.timerStarts := rfl
@[simp] theorem State.setMeas_draws (m : Measurement) : (s.setMeas m).draws = s.draws := rfl
@[simp] theorem State.setMeas_fnResult (m : Measurement) : (s.setMeas m).fnResult = s.fnResult := rfl

/-! ### `State.setDevAddr` -/

@[simp] theorem State.setDevAddr_cfg (a : Byte) : (s.setDevAddr a).cfg = s.cfg := rfl
@[simp] theorem State.setDevAddr_fsm (a : Byte) : (s.setDevAddr a).fsm = s.fsm := rfl
@[simp] theorem State.setDevAddr_op (a : Byte) : (s.setDevAddr a).op = s.op := rfl
@[simp] theorem State.setDevAddr_arg (a : Byte) : (s.setDevAddr a).arg = s.arg := rfl
@[simp] theorem State.setDevAddr_tmo (a : Byte) : (s.setDevAddr a).tmo = s.tmo := rfl
@[simp] theorem State.setDevAddr_devAddr (a : Byte) : (s.setDevAddr a).devAddr = a := rfl
@[simp] theorem State.setDevAddr_txBuf (a : Byte) : (s.setDevAddr a).txBuf = s.txBuf := rfl
@[simp] theorem State.setDevAddr_txLen (a : Byte) : (s.setDevAddr a).txLen = s.txLen := rfl
@[simp] theorem State.setDevAddr_txIdx (a : Byte) : (s.setDevAddr a).txIdx = s.txIdx := rfl
@[simp] theorem State.setDevAddr_rxBuf (a : Byte) : (s.setDevAddr a).rxBuf = s.rxBuf := rfl
@[simp] theorem State.setDevAddr_rxLen (a : Byte) : (s.setDevAddr a).rxLen = s.rxLen := rfl
@[simp] theorem State.setDevAddr_rxCnt (a : Byte) : (s.setDevAddr a).rxCnt = s.rxCnt := rfl
@[simp] theorem State.setDevAddr_err (a : Byte) : (s.setDevAddr a).err = s.err := rfl
@[simp] theorem State.setDevAddr_result (a : Byte) : (s.setDevAddr a).result = s.result := rfl
@[simp] theorem State.setDevAddr_meas (a : Byte) : (s.setDevAddr a).meas = s.meas := rfl
@[simp] theorem State.setDevAddr_thrOut (a : Byte) : (s.setDevAddr a).thrOut = s.thrOut := rfl
@[simp] theorem State.setDevAddr_busyFault (a : Byte) : (s.setDevAddr a).busyFault = s.busyFault := rfl
@[simp] theorem State.setDevAddr_port (a : Byte) : (s.setDevAddr a).port = s.port := rfl
@[simp] theorem State.setDevAddr_writes (a : Byte) : (s.setDevAddr a).writes = s.writes := rfl
@[simp] theorem State.setDevAddr_polls (a : Byte) : (s.setDevAddr a).polls = s.polls := rfl
@[simp] theorem State.setDevAddr_timer (a : Byte) : (s.setDevAddr a).timer = s.timer := rfl
@[simp] theorem State.setDevAddr_writeStuck (a : Byte) : (s.setDevAddr a).writeStuck = s.writeStuck := rfl
@[simp] theorem State.setDevAddr_line (a : Byte) : (s.setDevAddr a).line = s.line := rfl
@[simp] theorem State.setDevAddr_timerStarts (a : Byte) : (s.setDevAddr a).timerStarts = s.timerStarts := rfl
@[simp] theorem State.setDevAddr_draws (a : Byte) : (s.setDevAddr a).draws = s.draws := rfl
@[simp] theorem State.setDevAddr_fnResult (a : Byte) : (s.setDevAddr a).fnResult = s.fnResult := rfl

/-! ### `State.setThr` -/

@[simp] theorem State.setThr_cfg (t : Half) : (s.setThr t).cfg = s.cfg := rfl
@[simp] theorem State.setThr_fsm (t : Half) : (s.setThr t).fsm = s.fsm := rfl
@[simp] theorem State.setThr_op (t : Half) : (s.setThr t).op = s.op := rfl
@[simp] theorem State.setThr_arg (t : Half) : (s.setThr t).arg = s.arg := rfl
@[simp] theorem State.setThr_tmo (t : Half) : (s.setThr t).tmo = s.tmo := rfl
@[simp] theorem State.setThr_devAddr (t : Half) : (s.setThr t).devAddr = s.devAddr := rfl
@[simp] theorem State.setThr_txBuf (t : Half) : (s.setThr t).txBuf = s.txBuf := rfl
@[simp] theorem State.setThr_txLen (t : Half) : (s.setThr t).txLen = s.txLen := rfl
@[simp] theorem State.setThr_txIdx (t : Half) : (s.setThr t).txIdx = s.txIdx := rfl
@[simp] theorem State.setThr_rxBuf (t : Half) : (s.setThr t).rxBuf = s.rxBuf := rfl
@[simp] theorem State.setThr_rxLen (t : Half) : (s.setThr t).rxLen = s.rxLen := rfl
@[simp] theorem State.setThr_rxCnt (t : Half) : (s.setThr t).rxCnt = s.rxCnt := rfl
@[simp] theorem State.setThr_err (t : Half) : (s.setThr t).err = s.err := rfl
@[simp] theorem State.setThr_result (t : Half) : (s.setThr t).result = s.result := rfl
@[simp] theorem State.setThr_meas (t : Half) : (s.setThr t).meas = s.meas := rfl
@[simp] theorem State.setThr_thrOut (t : Half) : (s.setThr t).thrOut = t := rfl
@[simp] theorem State.setThr_busyFault (t : Half) : (s.setThr t).busyFault = s.busyFault := rfl
@[simp] theorem State.setThr_port (t : Half) : (s.setThr t).port = s.port := rfl
@[simp] theorem State.setThr_writes (t : Half) : (s.setThr t).writes = s.writes := rfl
@[simp] theorem State.setThr_polls (t : Half) : (s.setThr t).polls = s.polls := rfl
@[simp] theorem State.setThr_timer (t : Half) : (s.setThr t).timer = s.timer := rfl
@[simp] theorem State.setThr_writeStuck (t : Half) : (s.setThr t).writeStuck = s.writeStuck := rfl
@[simp] theorem State.setThr_line (t : Half) : (s.setThr t).line = s.line := rfl
@[simp] theorem State.setThr_timerStarts (t : Half) : (s.setThr t).timerStarts = s.timerStarts := rfl
@[simp] theorem State.setThr_draws (t : Half) : (s.setThr t).draws = s.draws := rfl
@[simp] theorem State.setThr_fnResult (t : Half) : (s.setThr t).fnResult = s.fnResult := rfl

/-! ### `State.returned` -/

@[simp] theorem State.returned_cfg (r : FnResult) : (s.returned r).cfg = s.cfg := rfl
@[simp] theorem State.returned_fsm (r : FnResult) : (s.returned r).fsm = s.fsm := rfl
@[simp] theorem State.returned_op (r : FnResult) : (s.returned r).op = s.op := rfl
@[simp] theorem State.returned_arg (r : FnResult) : (s.returned r).arg = s.arg := rfl
@[simp] theorem State.returned_tmo (r : FnResult) : (s.returned r).tmo = s.tmo := rfl
@[simp] theorem State.returned_devAddr (r : FnResult) : (s.returned r).devAddr = s.devAddr := rfl
@[simp] theorem State.returned_txBuf (r : FnResult) : (s.returned r).txBuf = s.txBuf := rfl
@[simp] theorem State.returned_txLen (r : FnResult) : (s.returned r).txLen = s.txLen := rfl
@[simp] theorem State.returned_txIdx (r : FnResult) : (s.returned r).txIdx = s.txIdx := rfl
@[simp] theorem State.returned_rxBuf (r : FnResult) : (s.returned r).rxBuf = s.rxBuf := rfl
@[simp] theorem State.returned_rxLen (r : FnResult) : (s.returned r).rxLen = s.rxLen := rfl
@[simp] theorem State.returned_rxCnt (r : FnResult) : (s.returned r).rxCnt = s.rxCnt := rfl
@[simp] theorem State.returned_err (r : FnResult) : (s.returned r).err = s.err := rfl
@[simp] theorem State.returned_result (r : FnResult) : (s.returned r).result = s.result := rfl
@[simp] theorem State.returned_meas (r : FnResult) : (s.returned r).meas = s.meas := rfl
@[simp] theorem State.returned_thrOut (r : FnResult) : (s.returned r).thrOut = s.thrOut := rfl
@[simp] theorem State.returned_busyFault (r : FnResult) : (s.returned r).busyFault = s.busyFault := rfl
@[simp] theorem State.returned_port (r : FnResult) : (s.returned r).port = s.port := rfl
@[simp] theorem State.returned_writes (r : FnResult) : (s.returned r).writes = s.writes := rfl
@[simp] theorem State.returned_polls (r : FnResult) : (s.returned r).polls = s.polls := rfl
@[simp] theorem State.returned_timer (r : FnResult) : (s.returned r).timer = s.timer := rfl
@[simp] theorem State.returned_writeStuck (r : FnResult) : (s.returned r).writeStuck = s.writeStuck := rfl
@[simp] theorem State.returned_line (r : FnResult) : (s.returned r).line = s.line := rfl
@[simp] theorem State.returned_timerStarts (r : FnResult) : (s.returned r).timerStarts = s.timerStarts := rfl
@[simp] theorem State.returned_draws (r : FnResult) : (s.returned r).draws = s.draws := rfl
@[simp] theorem State.returned_fnResult (r : FnResult) : (s.returned r).fnResult = r := rfl

/-! ### `State.fail` -/

@[simp] theorem State.fail_cfg (k : ErrKind) : (s.fail k).cfg = s.cfg := rfl
@[simp] theorem State.fail_fsm (k : ErrKind) : (s.fail k).fsm = .failed := rfl
@[simp] theorem State.fail_op (k : ErrKind) : (s.fail k).op = s.op := rfl
@[simp] theorem State.fail_arg (k : ErrKind) : (s.fail k).arg = s.arg := rfl
@[simp] theorem State.fail_tmo (k : ErrKind) : (s.fail k).tmo = s.tmo := rfl
@[simp] theorem State.fail_devAddr (k : ErrKind) : (s.fail k).devAddr = s.devAddr := rfl
@[simp] theorem State.fail_txBuf (k : ErrKind) : (s.fail k).txBuf = s.txBuf := rfl
@[simp] theorem State.fail_txLen (k : ErrKind) : (s.fail k).txLen = s.txLen := rfl
@[simp] theorem State.fail_txIdx (k : ErrKind) : (s.fail k).txIdx = s.txIdx := rfl
@[simp] theorem State.fail_rxBuf (k : ErrKind) : (s.fail k).rxBuf = s.rxBuf := rfl
@[simp] theorem State.fail_rxLen (k : ErrKind) : (s.fail k).rxLen = s.rxLen := rfl
@[simp] theorem State.fail_rxCnt (k : ErrKind) : (s.fail k).rxCnt = s.rxCnt := rfl
@[simp] theorem State.fail_err (k : ErrKind) : (s.fail k).err = k := rfl
@[simp] theorem State.fail_result (k : ErrKind) : (s.fail k).result = s.result := rfl
@[simp] theorem State.fail_meas (k : ErrKind) : (s.fail k).meas = s.meas := rfl
@[simp] theorem State.fail_thrOut (k : ErrKind) : (s.fail k).thrOut = s.thrOut := rfl
@[simp] theorem State.fail_busyFault (k : ErrKind) : (s.fail k).busyFault = s.busyFault := rfl
@[simp] theorem State.fail_port (k : ErrKind) : (s.fail k).port = s.port := rfl
@[simp] theorem State.fail_writes (k : ErrKind) : (s.fail k).writes = s.writes := rfl
@[simp] theorem State.fail_polls (k : ErrKind) : (s.fail k).polls = s.polls := rfl
@[simp] theorem State.fail_timer (k : ErrKind) : (s.fail k).timer = s.timer := rfl
@[simp] theorem State.fail_writeStuck (k : ErrKind) : (s.fail k).writeStuck = s.writeStuck := rfl
@[simp] theorem State.fail_line (k : ErrKind) : (s.fail k).line = s.line := rfl
@[simp] theorem State.fail_timerStarts (k : ErrKind) : (s.fail k).timerStarts = s.timerStarts := rfl
@[simp] theorem State.fail_draws (k : ErrKind) : (s.fail k).draws = s.draws := rfl
@[simp] theorem State.fail_fnResult (k : ErrKind) : (s.fail k).fnResult = s.fnResult := rfl

/-! ### `State.report` -/

@[simp] theorem State.report_cfg (r : Result) : (s.report r).cfg = s.cfg := rfl
@[simp] theorem State.report_fsm (r : Result) : (s.report r).fsm = .idle := rfl
@[simp] theorem State.report_op (r : Result) : (s.report r).op = s.op := rfl
@[simp] theorem State.report_arg (r : Result) : (s.report r).arg = s.arg := rfl
@[simp] theorem State.report_tmo (r : Result) : (s.report r).tmo = s.tmo := rfl
@[simp] theorem State.report_devAddr (r : Result) : (s.report r).devAddr = s.devAddr := rfl
@[simp] theorem State.report_txBuf (r : Result) : (s.report r).txBuf = [] := rfl
@[simp] theorem State.report_txLen (r : Result) : (s.report r).txLen = s.txLen := rfl
@[simp] theorem State.report_txIdx (r : Result) : (s.report r).txIdx = s.txIdx := rfl
@[simp] theorem State.report_rxBuf (r : Result) : (s.report r).rxBuf = [] := rfl
@[simp] theorem State.report_rxLen (r : Result) : (s.report r).rxLen = s.rxLen := rfl
@[simp] theorem State.report_rxCnt (r : Result) : (s.report r).rxCnt = 0 := rfl
@[simp] theorem State.report_err (r : Result) : (s.report r).err = s.err := rfl
@[simp] theorem State.report_result (r : Result) : (s.report r).result = r := rfl
@[simp] theorem State.report_meas (r : Result) : (s.report r).meas = s.meas := rfl
@[simp] theorem State.report_thrOut (r : Result) : (s.report r).thrOut = s.thrOut := rfl
@[simp] theorem State.report_busyFault (r : Result) : (s.report r).busyFault = s.busyFault := rfl
@[simp] theorem State.report_port (r : Result) : (s.report r).port = s.port := rfl
@[simp] theorem State.report_writes (r : Result) : (s.report r).writes = s.writes := rfl
@[simp] theorem State.report_polls (r : Result) : (s.report r).polls = s.polls := rfl
@[simp] theorem State.report_timer (r : Result) : (s.report r).timer = s.timer := rfl
@[simp] theorem State.report_writeStuck (r : Result) : (s.report r).writeStuck = s.writeStuck := rfl
@[simp] theorem State.report_line (r : Result) : (s.report r).line = s.line := rfl
@[simp] theorem State.report_timerStarts (r : Result) : (s.report r).timerStarts = s.timerStarts := rfl
@[simp] theorem State.report_draws (r : Result) : (s.report r).draws = s.draws := rfl
@[simp] theorem State.report_fnResult (r : Result) : (s.report r).fnResult = s.fnResult := rfl

/-! ### `State.resetEngine` -/

@[simp] theorem State.resetEngine_cfg : (s.resetEngine).cfg = s.cfg := rfl
@[simp] theorem State.resetEngine_fsm : (s.resetEngine).fsm = .idle := rfl
@[simp] theorem State.resetEngine_op : (s.resetEngine).op = .read := rfl
@[simp] theorem State.resetEngine_arg : (s.resetEngine).arg = 0 := rfl
@[simp] theorem State.resetEngine_tmo : (s.resetEngine).tmo = false := rfl
@[simp] theorem State.resetEngine_devAddr : (s.resetEngine).devAddr = s.cfg.resetAddr := rfl
@[simp] theorem State.resetEngine_txBuf : (s.resetEngine).txBuf = [] := rfl
@[simp] theorem State.resetEngine_txLen : (s.resetEngine).txLen = 0 := rfl
@[simp] theorem State.resetEngine_txIdx : (s.resetEngine).txIdx = 0 := rfl
@[simp] theorem State.resetEngine_rxBuf : (s.resetEngine).rxBuf = [] := rfl
@[simp] theorem State.resetEngine_rxLen : (s.resetEngine).rxLen = 0 := rfl
@[simp] theorem State.resetEngine_rxCnt : (s.resetEngine).rxCnt = 0 := rfl
@[simp] theorem State.resetEngine_err : (s.resetEngine).err = .transportWrite := rfl
@[simp] theorem State.resetEngine_result : (s.resetEngine).result = .none := rfl
@[simp] theorem State.resetEngine_meas : (s.resetEngine).meas = .zero := rfl
@[simp] theorem State.resetEngine_thrOut : (s.resetEngine).thrOut = 0 := rfl
@[simp] theorem State.resetEngine_busyFault : (s.resetEngine).busyFault = false := rfl
@[simp] theorem State.resetEngine_port : (s.resetEngine).port = s.port := rfl
@[simp] theorem State.resetEngine_writes : (s.resetEngine).writes = s.writes := rfl
@[simp] theorem State.resetEngine_polls : (s.resetEngine).polls = s.polls := rfl
@[simp] theorem State.resetEngine_timer : (s.resetEngine).timer = s.timer := rfl
@[simp] theorem State.resetEngine_writeStuck : (s.resetEngine).writeStuck = false := rfl
@[simp] theorem State.resetEngine_line : (s.resetEngine).line = s.line := rfl
@[simp] theorem State.resetEngine_timerStarts : (s.resetEngine).timerStarts = s.timerStarts := rfl
@[simp] theorem State.resetEngine_draws : (s.resetEngine).draws = s.draws := rfl
@[simp] theorem State.resetEngine_fnResult : (s.resetEngine).fnResult = s.fnResult := rfl

end Sys2Proof.Machine
end

