-- ==== Sys2Proof/Laws/Ops.lean ====
section
/-! SUPPORT. What each shared operation and each step can do, said once: later proofs cite these and unfold nothing. -/

namespace Sys2Proof.Machine

/-! ### Draws -/

theorem State.takeWrite_scripted {s : State} {w : WriteAnswer} {rest : List WriteAnswer} (h : s.writes = w :: rest) :
    s.takeWrite = (w, { s with writes := rest }) := by
  simp [State.takeWrite, h]

theorem State.takeWrite_free {s : State} (h : s.writes = []) :
    s.takeWrite = (Config.freeWrite s.draws, { s with draws := s.draws + 1 }) := by
  simp [State.takeWrite, h]

/-- A write's answer changes nothing but the script and the draw counter. -/
theorem State.takeWrite_frame (s : State) :
    ∃ ws n, s.takeWrite.2 = { s with writes := ws, draws := n } := by
  unfold State.takeWrite
  split
  · exact ⟨_, s.draws, rfl⟩
  · next h => exact ⟨s.writes, s.draws + 1, rfl⟩

theorem State.takePoll_scripted {s : State} {p : PollAnswer} {rest : List PollAnswer} (h : s.polls = p :: rest) :
    s.takePoll = (p, { s with polls := rest }) := by
  simp [State.takePoll, h]

theorem State.takePoll_free {s : State} (h : s.polls = []) :
    s.takePoll = (Config.freePoll s.draws, { s with draws := s.draws + 1 }) := by
  simp [State.takePoll, h]

/-- A poll's answer changes nothing but the script and the draw counter. -/
theorem State.takePoll_frame (s : State) :
    ∃ ps n, s.takePoll.2 = { s with polls := ps, draws := n } := by
  unfold State.takePoll
  split
  · exact ⟨_, s.draws, rfl⟩
  · next h => exact ⟨s.polls, s.draws + 1, rfl⟩

theorem State.takeTimer_scripted {s : State} {t : Bool} {rest : List Bool} (h : s.timer = t :: rest) :
    s.takeTimer = (t, { s with timer := rest }) := by
  simp [State.takeTimer, h]

theorem State.takeTimer_free {s : State} (h : s.timer = []) :
    s.takeTimer = (Config.freeElapsed s.draws, { s with draws := s.draws + 1 }) := by
  simp [State.takeTimer, h]

/-- A timer's answer changes nothing but the script and the draw counter. -/
theorem State.takeTimer_frame (s : State) :
    ∃ ts n, s.takeTimer.2 = { s with timer := ts, draws := n } := by
  unfold State.takeTimer
  split
  · exact ⟨_, s.draws, rfl⟩
  · next h => exact ⟨s.timer, s.draws + 1, rfl⟩

/-! ### Buffers -/

theorem State.txByte?_eq_some {s : State} {b : Byte} :
    s.txByte? = some b ↔ s.txIdx < s.txLen ∧ s.txBuf[s.txIdx]? = some b := by
  unfold State.txByte?
  split <;> simp_all

theorem State.rxBytes?_eq_some {s : State} {n : Nat} {r : List Byte} :
    s.rxBytes? n = some r ↔ (n ≤ s.rxCnt ∧ n ≤ s.rxBuf.length) ∧ s.rxBuf.take n = r := by
  unfold State.rxBytes?
  split <;> simp_all

theorem State.storeRx?_eq_some {s t : State} {b : Byte} :
    s.storeRx? b = some t ↔
      (s.rxCnt < Config.rxMax ∧ s.rxCnt ≤ s.rxBuf.length) ∧
        t = { s with rxBuf := s.rxBuf.take s.rxCnt ++ [b], rxCnt := s.rxCnt + 1 } := by
  unfold State.storeRx?
  split <;> simp_all [eq_comm]

/-! ### ACCEPT (R121, R188) -/

theorem accept_idle_ok {op : Op} {tmo : Bool} {arg : Half} {s : State} (hi : s.fsm = .idle)
    (ha : argOk s.cfg op arg = true) :
    accept op tmo arg s =
      .next ((if tmo then ((s.latch op tmo arg).load (request s.cfg op arg s.devAddr) (rxLenOf op)).startTimer
        else (s.latch op tmo arg).load (request s.cfg op arg s.devAddr) (rxLenOf op)).enter .sending) := by
  simp [accept, hi, ha]

theorem accept_idle_bad {op : Op} {tmo : Bool} {arg : Half} {s : State} (hi : s.fsm = .idle)
    (ha : argOk s.cfg op arg = false) :
    accept op tmo arg s = .next ((s.latch op tmo arg).fail .invalidArgument) := by
  simp [accept, hi, ha]

theorem accept_busy {op : Op} {tmo : Bool} {arg : Half} {s : State} (hb : s.fsm ≠ .idle) :
    accept op tmo arg s = .next s.raiseBusy := by
  unfold accept
  split
  · contradiction
  all_goals rfl

/-! ### The engine's own steps -/

/-- All a SEND step that answers next can do (R123). -/
theorem send_cases {s t : State} (h : send s = .next t) :
    ∃ b, s.txByte? = some b ∧
      ((s.takeWrite.1 = .err ∧ t = s.takeWrite.2.fail .transportWrite) ∨
       (s.takeWrite.1 = .never ∧ t = s.takeWrite.2.holdWrite) ∨
       (s.takeWrite.1 = .ok ∧
         t = if (s.takeWrite.2.sent b).txIdx = (s.takeWrite.2.sent b).txLen
           then (s.takeWrite.2.sent b).enter .receiving else s.takeWrite.2.sent b)) := by
  unfold send at h
  split at h
  · cases h
  · next b hb =>
    refine ⟨b, hb, ?_⟩
    split at h
    · next s1 hw => cases h; exact .inl ⟨by rw [hw], by rw [hw]⟩
    · next s1 hw => cases h; exact .inr (.inl ⟨by rw [hw], by rw [hw]⟩)
    · next s1 hw => cases h; exact .inr (.inr ⟨by rw [hw], by rw [hw]⟩)

/-- All a POLL step that answers next can do (R125, R128). -/
theorem poll_cases {s t : State} (h : poll s = .next t) :
    (∃ b, s.takePoll.1 = .byte b ∧ s.takePoll.2.storeRx? b = some t) ∨
    (s.takePoll.1 = .wouldBlock ∧ s.takePoll.2.tmo = true ∧ s.takePoll.2.takeTimer.1 = true ∧
      t = s.takePoll.2.takeTimer.2.fail .timeout) ∨
    (s.takePoll.1 = .wouldBlock ∧ s.takePoll.2.tmo = true ∧ s.takePoll.2.takeTimer.1 = false ∧
      t = s.takePoll.2.takeTimer.2) ∨
    (s.takePoll.1 = .wouldBlock ∧ s.takePoll.2.tmo = false ∧ t = s.takePoll.2) ∨
    (s.takePoll.1 = .err ∧ t = s.takePoll.2.fail .transportRead) := by
  unfold poll at h
  split at h
  · next b s1 hp =>
    split at h
    · next s2 hs => cases h; exact .inl ⟨b, by rw [hp], by rw [hp]; exact hs⟩
    · cases h
  · next s1 hp =>
    rw [hp]
    split at h
    · next ht =>
      split at h
      · next s2 he => cases h; exact .inr (.inl ⟨rfl, ht, by rw [he], by rw [he]⟩)
      · next s2 he => cases h; exact .inr (.inr (.inl ⟨rfl, ht, by rw [he], by rw [he]⟩))
    · next ht => cases h; exact .inr (.inr (.inr (.inl ⟨rfl, by simpa using ht, rfl⟩)))
  · next s1 hp => cases h; rw [hp]; exact .inr (.inr (.inr (.inr ⟨rfl, rfl⟩)))

/-- All a VALIDATE step that answers next can do (R127). -/
theorem validate_cases {s t : State} (h : validate s = .next t) :
    ∃ r, s.rxBytes? s.rxLen = some r ∧
      ((frameValidate s.cfg r s.rxLen s.devAddr = .ok ∧ t = s.enter .complete) ∨
       (∃ k, frameValidate s.cfg r s.rxLen s.devAddr = .err k ∧ t = s.fail k)) := by
  unfold validate at h
  split at h
  · cases h
  · next r hr =>
    refine ⟨r, hr, ?_⟩
    split at h
    · next hv => cases h; exact .inl ⟨hv, rfl⟩
    · next k hv => cases h; exact .inr ⟨k, hv, rfl⟩

/-- FRAME_VALIDATE reports no kind but the two of R102. -/
theorem frameValidate_err {cfg : Cfg} {r : List Byte} {n : Nat} {a : Byte} {k : ErrKind}
    (h : frameValidate cfg r n a = .err k) :
    (k = .checksumMismatch ∧ crcVerify cfg r = false) ∨
      (k = .unexpectedResponse ∧ (r.length ≠ n ∨ addrOk cfg r a = false)) := by
  unfold frameValidate at h
  split at h
  · next hn => cases h; exact .inr ⟨rfl, .inl hn⟩
  · unfold checksVerdict at h
    cases ho : cfg.checkOrder <;> cases hc : crcVerify cfg r <;> cases ha : addrOk cfg r a <;> simp_all

/-- A response that passes has the length asked for, and passes both checks (R102). -/
theorem frameValidate_ok {cfg : Cfg} {r : List Byte} {n : Nat} {a : Byte} :
    frameValidate cfg r n a = .ok ↔ r.length = n ∧ crcVerify cfg r = true ∧ addrOk cfg r a = true := by
  unfold frameValidate checksVerdict
  cases cfg.checkOrder <;> cases crcVerify cfg r <;> cases addrOk cfg r a <;> by_cases hn : r.length = n <;> simp [hn]

/-- All a commit can do (R156, R162, R166, R169, R172). -/
theorem commit_cases {s t : State} (h : commit s = some t) :
    (s.op = .read ∧ ∃ r m, s.rxBytes? 25 = some r ∧ decodeMeas? s.cfg r = some m ∧ t = s.setMeas m) ∨
    (s.op = .setaddr ∧ t = s.setDevAddr (lowByte s.arg)) ∨
    ((s.op = .rste ∨ s.op = .setthr) ∧ t = s) ∨
    (s.op = .getthr ∧ ∃ r v, s.rxBytes? 7 = some r ∧ decodeThr? r = some v ∧ t = s.setThr v) := by
  unfold commit at h
  split at h
  · next ho =>
    unfold commitRead at h
    split at h
    · next r hr =>
      split at h
      · next m hm => cases h; exact .inl ⟨ho, r, m, hr, hm, rfl⟩
      · cases h
    · cases h
  · next ho => cases h; exact .inr (.inl ⟨ho, rfl⟩)
  · next ho => cases h; exact .inr (.inr (.inl ⟨.inl ho, rfl⟩))
  · next ho => cases h; exact .inr (.inr (.inl ⟨.inr ho, rfl⟩))
  · next ho =>
    unfold commitGetthr at h
    split at h
    · next r hr =>
      split at h
      · next v hv => cases h; exact .inr (.inr (.inr ⟨ho, r, v, hr, hv, rfl⟩))
      · cases h
    · cases h

/-- All a REPORT step from COMPLETE that answers next can do (R132). -/
theorem reportComplete_cases {s t : State} (h : reportComplete s = .next t) :
    ∃ s1, commit s = some s1 ∧ t = s1.report .ok := by
  unfold reportComplete at h
  split at h
  · next s1 hc => cases h; exact ⟨s1, hc, rfl⟩
  · cases h

/-- Which step the engine takes by itself (R134). -/
theorem engineStep_cases {s t : State} (h : engineStep s = .next t) :
    (s.fsm = .idle ∧ t = s) ∨
    (s.fsm = .sending ∧ s.writeStuck = true ∧ t = s) ∨
    (s.fsm = .sending ∧ s.writeStuck = false ∧ send s = .next t) ∨
    (s.fsm = .receiving ∧ s.rxCnt < s.rxLen ∧ poll s = .next t) ∨
    (s.fsm = .receiving ∧ s.rxCnt = s.rxLen ∧ validate s = .next t) ∨
    (s.fsm = .complete ∧ reportComplete s = .next t) ∨
    (s.fsm = .failed ∧ t = s.reportFailed) := by
  unfold engineStep at h
  split at h
  · next hf => cases h; exact .inl ⟨hf, rfl⟩
  · next hf =>
    split at h
    · next hw => cases h; exact .inr (.inl ⟨hf, hw, rfl⟩)
    · next hw => exact .inr (.inr (.inl ⟨hf, by simpa using hw, h⟩))
  · next hf =>
    split at h
    · next hc => exact .inr (.inr (.inr (.inl ⟨hf, hc, h⟩)))
    · split at h
      · next hc => exact .inr (.inr (.inr (.inr (.inl ⟨hf, hc, h⟩))))
      · cases h
  · next hf => exact .inr (.inr (.inr (.inr (.inr (.inl ⟨hf, h⟩)))))
  · next hf => cases h; exact .inr (.inr (.inr (.inr (.inr (.inr ⟨hf, rfl⟩)))))

/-- A write that never returned holds the engine where it is (R135). -/
theorem engineStep_stuck {s : State} (hf : s.fsm = .sending) (hw : s.writeStuck = true) : engineStep s = .next s := by
  simp [engineStep, hf, hw]

/-- In SENDING with no such write the engine's step is SEND. -/
theorem engineStep_sending {s : State} (hf : s.fsm = .sending) (hw : s.writeStuck = false) : engineStep s = send s := by
  simp [engineStep, hf, hw]

/-- The engine's own step neither reads nor writes the caller's events. -/
theorem engineStep_port {s t : State} (h : engineStep s = .next t) : t.port = s.port := by
  rcases engineStep_cases h with
    ⟨_, rfl⟩ | ⟨_, _, rfl⟩ | ⟨_, _, h⟩ | ⟨_, _, h⟩ | ⟨_, _, h⟩ | ⟨_, h⟩ | ⟨_, rfl⟩
  · rfl
  · rfl
  · obtain ⟨ws, n, e⟩ := s.takeWrite_frame
    obtain ⟨b, _, ⟨_, rfl⟩ | ⟨_, rfl⟩ | ⟨_, rfl⟩⟩ := send_cases h <;> rw [e]
    · rfl
    · rfl
    · split <;> rfl
  · obtain ⟨ps, n, e⟩ := s.takePoll_frame
    obtain ⟨ts, m, e'⟩ := s.takePoll.2.takeTimer_frame
    have hp : s.takePoll.2.port = s.port := by rw [e]
    have ht : s.takePoll.2.takeTimer.2.port = s.port := by rw [e']; exact hp
    rcases poll_cases h with ⟨b, _, hs⟩ | ⟨_, _, _, rfl⟩ | ⟨_, _, _, rfl⟩ | ⟨_, _, rfl⟩ | ⟨_, rfl⟩
    · rw [(State.storeRx?_eq_some.1 hs).2]; exact hp
    · exact ht
    · exact ht
    · exact hp
    · exact hp
  · obtain ⟨r, _, ⟨_, rfl⟩ | ⟨k, _, rfl⟩⟩ := validate_cases h <;> rfl
  · obtain ⟨s1, hc, rfl⟩ := reportComplete_cases h
    rcases commit_cases hc with ⟨_, r, m, _, _, rfl⟩ | ⟨_, rfl⟩ | ⟨_, rfl⟩ | ⟨_, r, v, _, _, rfl⟩ <;> rfl
  · rfl

/-! ### The end of a run (R188) -/

/-- A run's end is a next state exactly where `busy_fault` is false. -/
theorem State.settled_eq_next {s t : State} : s.settled = .next t ↔ s.busyFault = false ∧ s = t := by
  unfold State.settled
  split <;> simp_all

/-! ### Reset (R211, R212) -/

theorem applyReset_cases {s t : State} (h : applyReset s = .next t) : resetAddrOk s.cfg = true ∧ t = s.resetEngine := by
  unfold applyReset at h
  split at h
  · next hr => cases h; exact ⟨hr, rfl⟩
  · cases h

/-! ### Commands and the port -/

/-- What running a decoded word can do: it is one of the five operations and is accepted or turned away. -/
theorem runWord_cases {w : CommandWord} {s t : State} (h : runWord w s = .next t) :
    ∃ op, accept op (tmoField w) (argField w) s = .next t ∧
      decodeCommand w = (match op with
        | .read => .read (tmoField w) (argField w)
        | .setaddr => .setaddr (tmoField w) (argField w)
        | .rste => .rste (tmoField w) (argField w)
        | .setthr => .setthr (tmoField w) (argField w)
        | .getthr => .getthr (tmoField w) (argField w)) := by
  unfold runWord decodeCommand at *
  split at h
  · exact ⟨.read, h, rfl⟩
  · exact ⟨.setaddr, h, rfl⟩
  · exact ⟨.rste, h, rfl⟩
  · exact ⟨.setthr, h, rfl⟩
  · exact ⟨.getthr, h, rfl⟩
  all_goals cases h

/-- All a step that answers next can do: the caller's event, or the engine's own step. -/
theorem step_cases {s t : State} (h : step s = .next t) :
    (s.port = [] ∧ engineStep s = .next t) ∨
    (∃ rest, s.port = .pause :: rest ∧ engineStep (s.setPort rest) = .next t) ∨
    (∃ rest, s.port = .reset :: rest ∧ applyReset (s.setPort rest) = .next t) ∨
    (∃ w rest, s.port = .offer w :: rest ∧ runWord w (s.setPort rest) = .next t) ∨
    (∃ w rest, s.port = .offerIdle w :: rest ∧ s.fsm = .idle ∧ runWord w (s.setPort rest) = .next t) ∨
    (∃ w rest, s.port = .offerIdle w :: rest ∧ s.fsm ≠ .idle ∧ engineStep s = .next t) := by
  unfold step interfaceStep at h
  split at h
  · next hp => exact .inl ⟨hp, h⟩
  · next rest hp => exact .inr (.inl ⟨rest, hp, h⟩)
  · next rest hp => exact .inr (.inr (.inl ⟨rest, hp, h⟩))
  · next w rest hp => exact .inr (.inr (.inr (.inl ⟨w, rest, hp, h⟩)))
  · next w rest hp =>
    split at h
    · next hf => exact .inr (.inr (.inr (.inr (.inl ⟨w, rest, hp, hf, h⟩))))
    · next hf => exact .inr (.inr (.inr (.inr (.inr ⟨w, rest, hp, hf, h⟩))))

end Sys2Proof.Machine
end

