-- ==== Sys2Proof/Laws/PerInstr.lean ====
section
/-! SUPPORT. Statements made once per constructor of Instr. Family `CommandFields`: the word of a command carries in its
three fields what spec/30_encoding.md R60, R61 and R63 put there, and an internal function has no word. -/

namespace Sys2Proof.Laws.CommandFields

/-- `tmo`, operation code and `arg` of a command; `none` for an internal function. -/
def fields : Instr → Option (Bool × BitVec 3 × Half)
  | .read tmo arg => some (tmo, 0, arg)
  | .setaddr tmo arg => some (tmo, 1, arg)
  | .rste tmo arg => some (tmo, 2, arg)
  | .setthr tmo arg => some (tmo, 3, arg)
  | .getthr tmo arg => some (tmo, 4, arg)
  | .reserved5 tmo arg => some (tmo, 5, arg)
  | .reserved6 tmo arg => some (tmo, 6, arg)
  | .reserved7 tmo arg => some (tmo, 7, arg)
  | .crcCompute _ => none
  | .crcVerify _ => none
  | .frameEncode _ _ _ => none
  | .frameValidate _ _ _ => none
  | .decodeMeas _ => none

/-- The encoded word's fields are the instruction's. -/
def Statement (i : Instr) : Prop :=
  (encode i).map (fun w => (tmoField w, opField w, argField w)) = fields i

theorem read (tmo : Bool) (arg : Half) : Statement (.read tmo arg) := by
  simp [Statement, encode, fields, Op.code]

theorem setaddr (tmo : Bool) (arg : Half) : Statement (.setaddr tmo arg) := by
  simp [Statement, encode, fields, Op.code]

theorem rste (tmo : Bool) (arg : Half) : Statement (.rste tmo arg) := by
  simp [Statement, encode, fields, Op.code]

theorem setthr (tmo : Bool) (arg : Half) : Statement (.setthr tmo arg) := by
  simp [Statement, encode, fields, Op.code]

theorem getthr (tmo : Bool) (arg : Half) : Statement (.getthr tmo arg) := by
  simp [Statement, encode, fields, Op.code]

theorem reserved5 (tmo : Bool) (arg : Half) : Statement (.reserved5 tmo arg) := by
  simp [Statement, encode, fields]

theorem reserved6 (tmo : Bool) (arg : Half) : Statement (.reserved6 tmo arg) := by
  simp [Statement, encode, fields]

theorem reserved7 (tmo : Bool) (arg : Half) : Statement (.reserved7 tmo arg) := by
  simp [Statement, encode, fields]

theorem crcCompute (s : List Byte) : Statement (.crcCompute s) := rfl

theorem crcVerify (f : List Byte) : Statement (.crcVerify f) := rfl

theorem frameEncode (a fc : Byte) (p : List Byte) : Statement (.frameEncode a fc p) := rfl

theorem frameValidate (r : List Byte) (n a : Byte) : Statement (.frameValidate r n a) := rfl

theorem decodeMeas (r : List Byte) : Statement (.decodeMeas r) := rfl

end Sys2Proof.Laws.CommandFields
end

