-- ==== Sys2Proof/Laws/Run.lean ====
section
/-! SUPPORT. Runs of several steps: the first step taken off, two runs joined, and the host's run of the same machine. -/

namespace Sys2Proof.Machine

@[simp] theorem run_zero (s : State) : run 0 s = .next s := rfl

theorem run_succ {s t : State} (k : Nat) (h : step s = .next t) : run (k + 1) s = run k t := by
  simp only [run, h]

theorem run_add {s t : State} (k j : Nat) (h : run k s = .next t) : run (k + j) s = run j t := by
  induction k generalizing s with
  | zero => cases h; rw [Nat.zero_add]
  | succ n ih =>
    rw [Nat.add_right_comm]
    simp only [run] at h ⊢
    split at h
    · next u hu => exact ih h
    · cases h
    · cases h

/-- What a claim sees of a run that answers next is its settled end. -/
theorem claimedRun_of_run {s t : State} {k : Nat} (h : run k s = .next t) : claimedRun k s = t.settled := by
  simp only [claimedRun, h]

theorem claimedRun_succ {s t : State} (k : Nat) (h : step s = .next t) : claimedRun (k + 1) s = claimedRun k t := by
  simp only [claimedRun, run_succ k h]

/-- A claim sees a next state exactly where the run answers it with `busy_fault` false. -/
theorem claimedRun_eq_next {s t : State} {k : Nat} :
    claimedRun k s = .next t ↔ run k s = .next t ∧ t.busyFault = false := by
  unfold claimedRun
  cases run k s <;> simp [State.settled_eq_next]
  exact ⟨fun ⟨hb, he⟩ => ⟨he, he ▸ hb⟩, fun ⟨he, hb⟩ => ⟨he ▸ hb, he⟩⟩

/-- While the caller holds its next word back, a step outside IDLE is the engine's own. -/
theorem step_heldBack {s : State} (hp : HeldBack s.port) (hf : s.fsm ≠ .idle) : step s = engineStep s := by
  rcases hp with hp | ⟨w, more, hp⟩ <;> simp [step, interfaceStep, hp, hf]

theorem coreRun_next {M : Host.Core} {s t : M.State} (k : Nat) (h : M.step s = .next t) :
    M.run (k + 1) s = M.run k t := by
  simp only [Host.Core.run, h]

theorem coreRun_fault {M : Host.Core} {s : M.State} {r : M.Fault} (k : Nat) (h : M.step s = .fault r) :
    M.run (k + 1) s = .fault r := by
  simp only [Host.Core.run, h]

theorem coreRun_refused {M : Host.Core} {s : M.State} {r : M.Refusal} (k : Nat) (h : M.step s = .refused r) :
    M.run (k + 1) s = .refused r := by
  simp only [Host.Core.run, h]

/-- `run` is the host's run of the machine. -/
theorem core_run_eq (k : Nat) (s : State) : Sys2Proof.core.run k s = run k s := by
  induction k generalizing s with
  | zero => rfl
  | succ n ih =>
    cases h : step s with
    | next t => exact (coreRun_next (M := Sys2Proof.core) n h).trans ((ih t).trans (run_succ n h).symm)
    | fault r => exact (coreRun_fault (M := Sys2Proof.core) n h).trans (by simp only [run, h]; rfl)
    | refused r => exact (coreRun_refused (M := Sys2Proof.core) n h).trans (by simp only [run, h]; rfl)

end Sys2Proof.Machine
end

