-- ==== Sys2Proof/Tests/Slice0.lean ====
section
/-! SUPPORT. Tests whose expected results are the vectors of spec/95_test_vectors.md or words written out from
spec/30_encoding.md R60, and for each statement with hypotheses a witness that meets them all. -/

namespace Sys2Proof.Tests

open Sys2Proof.Machine

/-! ### Small states -/

/-- IDLE after reset with the caller's events `es`. -/
def idleWith (es : List CallerEvent) : State := { State.reset with port := es }

/-- The four bytes of the RSTE request and acknowledgement at 0xF8 (vectors E15, F1). -/
def rsteFrame : List Byte := [0xF8, 0x42, 0xC2, 0x41]

/-- SENDING for RSTE at 0xF8, `n` bytes written. -/
def sendingRste (n : Nat) : State :=
  { State.reset with fsm := .sending, op := .rste, txBuf := rsteFrame, txLen := 4, txIdx := n, rxLen := 4 }

/-- RECEIVING for RSTE at 0xF8 with `tmo`, the bytes `r` received. -/
def receivingRste (tmo : Bool) (r : List Byte) : State :=
  { State.reset with
    fsm := .receiving, op := .rste, tmo := tmo, txBuf := rsteFrame, txLen := 4, txIdx := 4,
    rxBuf := r, rxLen := 4, rxCnt := r.length }

/-- COMPLETE for an operation with the response `r`. -/
def completeWith (op : Op) (arg : Half) (r : List Byte) : State :=
  { State.reset with fsm := .complete, op := op, arg := arg, rxBuf := r, rxLen := r.length, rxCnt := r.length }

/-- The response RA of the spec. -/
def frameRA : List Byte :=
  [0xF8, 0x04, 0x14, 0x08, 0xFC, 0x04, 0xD2, 0x00, 0x00, 0x0B, 0x16, 0x00, 0x00, 0x30, 0x39, 0x00, 0x00, 0x01, 0xF4,
   0x00, 0x64, 0x00, 0x00, 0xFA, 0xB6]

/-- The response RB of the spec. -/
def frameRB : List Byte :=
  [0x05, 0x04, 0x14, 0x08, 0xCA, 0x23, 0x45, 0x00, 0x01, 0x00, 0x01, 0x00, 0x02, 0x00, 0x00, 0x01, 0x00, 0x01, 0xF4,
   0x00, 0x5F, 0xFF, 0xFF, 0xB0, 0xAB]

/-- The adopted configuration with the other check order. -/
def cfgAddrFirst : Cfg := { Cfg.default with checkOrder := .addrFirst }

/-- The adopted configuration with the other word order. -/
def cfgHighWordFirst : Cfg := { Cfg.default with wordOrder32 := .highWordFirst }

/-! ### Well-formedness -/

theorem test_wellFormed_decodeMeas_25 : (Instr.decodeMeas frameRA).wellFormed = true := by decide

theorem test_wellFormed_refuses_24_bytes : (Instr.decodeMeas (frameRA.take 24)).wellFormed = false := by decide

theorem test_wellFormed_refuses_26_bytes : (Instr.decodeMeas (0 :: frameRA)).wellFormed = false := by decide

/-! ### Decoding: every constructor by a word written out bit by bit, tmo | op | arg (R60) -/

theorem test_decode_read : decodeCommand 0b1_000_0000000000000000 = .read true 0 := by decide

theorem test_decode_setaddr : decodeCommand 0b0_001_0000000000000101 = .setaddr false 5 := by decide

theorem test_decode_rste : decodeCommand 0b0_010_0000000000000000 = .rste false 0 := by decide

theorem test_decode_setthr : decodeCommand 0b1_011_0000100011111100 = .setthr true 2300 := by decide

theorem test_decode_getthr : decodeCommand 0b0_100_0000000000000000 = .getthr false 0 := by decide

theorem test_decode_reserved5 : decodeCommand 0b0_101_1000000000000001 = .reserved5 false 0x8001 := by decide

theorem test_decode_reserved6 : decodeCommand 0b1_110_0000000000000000 = .reserved6 true 0 := by decide

theorem test_decode_reserved7 : decodeCommand 0b0_111_1111111111111111 = .reserved7 false 0xFFFF := by decide

theorem test_decode_rejects_21_bits : decodeWord 0x100000 = .error .tooWide := by decide

theorem test_decodeTableWord_getthr : decodeTableWord 24 0x40000 = some (.getthr false 0) := by decide

theorem test_decodeTableWord_no_bits : decodeTableWord 0 0 = none := by decide

theorem test_encode_setthr : encode (.setthr true 2300) = some 0xB08FC := by decide

/-! ### Textual syntax (R77, vectors O1, O2, O4) -/

theorem test_assemble_read : assemble? ['R', 'E', 'A', 'D', '.', 'T'] = some 0x80000 := by decide

theorem test_assemble_setaddr :
    assemble? ['S', 'E', 'T', 'A', 'D', 'D', 'R', ' ', '0', 'x', '0', '5'] = some 0x10005 := by decide

theorem test_assemble_setthr :
    assemble? ['S', 'E', 'T', 'T', 'H', 'R', '.', 'T', ' ', '2', '3', '0', '0'] = some 0xB08FC := by decide

theorem test_assemble_missing_operand : assemble? ['S', 'E', 'T', 'T', 'H', 'R'] = none := by decide

theorem test_assemble_extra_operand : assemble? ['R', 'S', 'T', 'E', ' ', '1'] = none := by decide

/-- The operand of vector E13, capitals and two digits. -/
theorem test_assemble_capitals :
    assemble? ['S', 'E', 'T', 'A', 'D', 'D', 'R', ' ', '0', 'x', 'F', '7'] = some 0x100F7 := by decide

theorem test_operand_spellings :
    Spelling.decimal.operand 0 2300 = ['2', '3', '0', '0'] ∧ Spelling.hexUpper.operand 0 0xF7 = ['0', 'x', 'F', '7'] ∧
      Spelling.hexLower.operand 1 5 = ['0', 'x', '0', '5'] ∧ Spelling.decimal.operand 0 0 = ['0'] := by
  decide

/-! ### Checksum (vectors C1, C5, C6, C9, C11 to C16) -/

theorem test_crc_check_value :
    crc16 Cfg.default [0x31, 0x32, 0x33, 0x34, 0x35, 0x36, 0x37, 0x38, 0x39] = 0x4B37 := by decide +kernel

theorem test_crc_table : crcTable 0xA001 1 = 0xC0C1 ∧ crcTable 0xA001 128 = 0xA001 ∧ crcTable 0xA001 255 = 0x4040 := by
  decide +kernel

theorem test_crc_append : crcAppend Cfg.default [0xF8, 0x42] = rsteFrame := by decide +kernel

theorem test_exec_crcCompute :
    exec (.crcCompute [0x01, 0x04, 0x00, 0x00, 0x00, 0x0A]) State.reset =
      .next { State.reset with fnResult := .crc 0x0D70 } := by
  have h : crc16 Cfg.default [0x01, 0x04, 0x00, 0x00, 0x00, 0x0A] = 0x0D70 := by decide +kernel
  simp only [exec, execCrcCompute, State.returned, show State.reset.cfg = Cfg.default from rfl, h]

theorem test_crcVerify_true : crcVerify Cfg.default [0x01, 0x04, 0x00, 0x00, 0x00, 0x0A, 0x70, 0x0D] = true := by
  decide +kernel

theorem test_crcVerify_false :
    crcVerify Cfg.default [0x01, 0x04, 0x00, 0x00, 0x00, 0x0A, 0x0D, 0x70] = false ∧ crcVerify Cfg.default [0x12] = false ∧
      crcVerify Cfg.default [0xFF, 0xFF] = true := by
  decide +kernel

/-! ### Frame codec (vectors E1, E5, E7, E11, E14, E15, F4 to F7, F9) -/

theorem test_request_read : request Cfg.default .read 0 0xF8 = [0xF8, 0x04, 0x00, 0x00, 0x00, 0x0A, 0x64, 0x64] := by
  decide +kernel

theorem test_request_getthr : request Cfg.default .getthr 0 0xF8 = [0xF8, 0x03, 0x00, 0x01, 0x00, 0x01, 0xC1, 0xA3] := by
  decide +kernel

theorem test_request_setthr :
    request Cfg.default .setthr 2300 0xF8 = [0xF8, 0x06, 0x00, 0x01, 0x08, 0xFC, 0xCB, 0xE2] := by
  decide +kernel

theorem test_request_setaddr :
    request Cfg.default .setaddr 7 0x05 = [0x05, 0x06, 0x00, 0x02, 0x00, 0x07, 0x68, 0x4C] := by
  decide +kernel

theorem test_request_rste : request Cfg.default .rste 0 0x05 = [0x05, 0x42, 0x82, 0xD1] := by decide +kernel

theorem test_frameEncode : frameEncode Cfg.default 0xF8 0x42 [] = rsteFrame := by decide +kernel

theorem test_frameValidate_address :
    frameValidate Cfg.default [0x06, 0x03, 0x02, 0x08, 0xFC, 0x0A, 0x05] 7 0x05 = .err .unexpectedResponse ∧
      frameValidate Cfg.default [0x06, 0x03, 0x02, 0x08, 0xFC, 0x0A, 0x05] 7 0xF8 = .ok := by
  decide +kernel

theorem test_frameValidate_order :
    frameValidate Cfg.default [0x06, 0x03, 0x02, 0x08, 0xFC, 0x0A, 0x04] 7 0x05 = .err .checksumMismatch ∧
      frameValidate cfgAddrFirst [0x06, 0x03, 0x02, 0x08, 0xFC, 0x0A, 0x04] 7 0x05 = .err .unexpectedResponse ∧
      frameValidate Cfg.default rsteFrame 8 0xF8 = .err .unexpectedResponse := by
  decide +kernel

/-- The device's response formats give the spec's response frames (F2, F8). -/
theorem test_responses :
    rspRd Cfg.default 0xF8 0x03 [2300] = [0xF8, 0x03, 0x02, 0x08, 0xFC, 0x23, 0xD1] ∧
      rspWr Cfg.default 0x05 0x06 2 7 = [0x05, 0x06, 0x00, 0x02, 0x00, 0x07, 0x68, 0x4C] ∧
      rspCmd Cfg.default 0xF8 0x42 = rsteFrame := by
  decide +kernel

/-! ### Payload (vectors D1, D2, D13, S1's corrected voltage in D2) -/

theorem test_decodeMeas_RA :
    decodeMeas? Cfg.default frameRA = some ⟨2300, 1234, 2838, 12345, 500, 100, false⟩ := by decide +kernel

theorem test_decodeMeas_RB :
    decodeMeas? Cfg.default frameRB = some ⟨2250, 74565, 131073, 16777216, 500, 95, true⟩ ∧
      decodeMeas? cfgHighWordFirst frameRB = some ⟨2250, 591724545, 65538, 256, 500, 95, true⟩ := by
  decide +kernel

theorem test_decodeThr : decodeThr? [0xF8, 0x03, 0x02, 0x08, 0xFC, 0x23, 0xD1] = some 2300 := by decide

theorem test_measPayload_RA :
    measPayload .lowWordFirst ⟨2300, 1234, 2838, 12345, 500, 100, false⟩ 0 = (frameRA.drop 3).take 20 := by decide

theorem test_quantities_RA :
    (⟨2300, 1234, 2838, 12345, 500, 100, false⟩ : Measurement).volts = 230 ∧
      (⟨2300, 1234, 2838, 12345, 500, 100, false⟩ : Measurement).amps = 1234 / 1000 ∧
      (⟨2300, 1234, 2838, 12345, 500, 100, false⟩ : Measurement).kiloWattHours = 12345 / 1000 := by
  have hv : (2300 : Half).toNat = 2300 := rfl
  have hi : (1234 : Long).toNat = 1234 := rfl
  have he : (12345 : Long).toNat = 12345 := rfl
  refine ⟨?_, ?_, ?_⟩
  · rw [Measurement.volts, hv]; norm_num
  · rw [Measurement.amps, hi]; norm_num
  · rw [Measurement.kiloWattHours, he]; norm_num

/-! ### Commands, one step each (vectors O6 to O12, T12, T13) -/

/-- What a step leaves in chosen fields, if it answers next. -/
def after {α : Type} (o : Host.Outcome State Fault Refusal) (f : State → α) : Option α :=
  match o with
  | .next t => some (f t)
  | .fault _ => none
  | .refused _ => none

theorem test_step_read :
    after (step (State.reset.withFetchWord 24 0x80000)) (fun t => (t.fsm, t.rxLen, t.timerStarts)) =
      some (.sending, 25, 1) := by
  decide +kernel

theorem test_step_setaddr_illegal :
    after (exec (.setaddr false 0x0105) State.reset) (fun t => (t.fsm, t.err, t.devAddr)) =
      some (.failed, .invalidArgument, 0xF8) := by
  decide +kernel

theorem test_step_setaddr_legal :
    after (exec (.setaddr false 0x00F7) State.reset) (fun t => (t.fsm, t.txBuf)) =
      some (.sending, [0xF8, 0x06, 0x00, 0x02, 0x00, 0xF7, 0x7D, 0xE5]) := by
  decide +kernel

theorem test_step_rste :
    after (exec (.rste false 0) State.reset) (fun t => (t.txBuf, t.rxLen, t.timerStarts)) = some (rsteFrame, 4, 0) := by
  decide +kernel

theorem test_step_setthr :
    after (exec (.setthr false 0xFFFF) State.reset) (fun t => t.txBuf) =
      some [0xF8, 0x06, 0x00, 0x01, 0xFF, 0xFF, 0xCD, 0xD3] := by
  decide +kernel

theorem test_step_getthr :
    after (exec (.getthr true 0) State.reset) (fun t => (t.txBuf, t.rxLen)) =
      some ([0xF8, 0x03, 0x00, 0x01, 0x00, 0x01, 0xC1, 0xA3], 7) := by
  decide +kernel

/-- T12: a command offered while busy. -/
theorem test_step_busy :
    after (step ((sendingRste 2).withFetchWord 24 0)) (fun t => (t.busyFault, t.fsm, t.txIdx, t.op)) =
      some (true, .sending, 2, .rste) := by
  decide +kernel

theorem test_step_reserved : step ((State.reset).withFetchWord 24 0x50000) = .refused (.reservedOp 5) := rfl

/-- T13: reset while busy. -/
theorem test_step_reset :
    after (step { sendingRste 3 with port := [.reset], line := [0xF8, 0x42, 0xC2] })
      (fun t => (t.fsm, t.result, t.line)) = some (.idle, .none, [0xF8, 0x42, 0xC2]) := by
  decide +kernel

/-! ### The engine's steps -/

/-- T4: the third write fails with two bytes on the line. -/
theorem test_send_error :
    after (step { sendingRste 2 with writes := [.err], line := [0xF8, 0x42] }) (fun t => (t.fsm, t.err, t.line)) =
      some (.failed, .transportWrite, [0xF8, 0x42]) := by
  decide +kernel

/-- R135: a write that never returns takes no byte; the next step answers the same state. -/
theorem test_send_never :
    after (step { sendingRste 2 with writes := [.never, .ok], line := [0xF8, 0x42] })
      (fun t => (t.fsm, t.txIdx, t.line, after (step t) (fun u => (u.fsm, u.txIdx, u.writes)))) =
      some (.sending, 2, [0xF8, 0x42], some (.sending, 2, [.ok])) := rfl

/-- R188: a run that ends with `busy_fault` set is a fault. -/
theorem test_busy_run_is_a_fault :
    claimedRun 1 { sendingRste 2 with port := [.offer 0x20000] } = .fault .busyFault := rfl

theorem test_send_last :
    after (step { sendingRste 3 with writes := [.ok], line := [0xF8, 0x42, 0xC2] }) (fun t => (t.fsm, t.line)) =
      some (.receiving, rsteFrame) := by
  decide +kernel

theorem test_poll_timeout :
    after (step { receivingRste true [0xF8] with polls := [.wouldBlock], timer := [true] }) (fun t => (t.fsm, t.err)) =
      some (.failed, .timeout) := by
  decide +kernel

/-- T3: without `tmo` the timer is never read. -/
theorem test_poll_no_timeout :
    after (step { receivingRste false [0xF8] with polls := [.wouldBlock], timer := [true] }) (fun t => (t.fsm, t.timer)) =
      some (.receiving, [true]) := by
  decide +kernel

/-- P2 step 1: the acknowledgement of SETADDR 0x05 commits the address. -/
theorem test_report_setaddr :
    after (step (completeWith .setaddr 5 [0xF8, 0x06, 0x00, 0x02, 0x00, 0x05, 0xFC, 0x60]))
      (fun t => (t.devAddr, t.result, t.fsm)) = some (0x05, .ok, .idle) := by
  decide +kernel

theorem test_report_read :
    after (step (completeWith .read 0 frameRA)) (fun t => (t.meas, t.rxBuf)) =
      some (⟨2300, 1234, 2838, 12345, 500, 100, false⟩, []) := by
  decide +kernel

theorem test_report_getthr :
    after (step (completeWith .getthr 0 [0xF8, 0x03, 0x02, 0x08, 0xFC, 0x23, 0xD1])) (fun t => (t.thrOut, t.result)) =
      some (2300, .ok) := by
  decide +kernel

/-- A read of a byte that holds no value faults (R26). -/
theorem test_unspecified_byte_faults :
    step { receivingRste false [] with rxCnt := 4 } = .fault .unspecifiedByte := rfl

/-! ### Witnesses: for each statement with hypotheses, a state and operands that meet them all -/

theorem witness_ResetAbandonsTransaction :
    (idleWith [.reset]).port = .reset :: [] ∧ (idleWith [.reset]).cfg.resetAddr = (idleWith [.reset]).cfg.addrGeneral ∧
    (let s := { idleWith [.reset] with cfg := { Cfg.default with resetAddr := 0x00 } }
     s.port = .reset :: [] ∧ s.cfg.resetAddr ≠ s.cfg.addrGeneral ∧
       legalAddr s.cfg (s.cfg.resetAddr.setWidth 16) = false) := by
  decide +kernel

theorem witness_Admitted : Admitted Cfg.default ∧ Admitted { Cfg.default with resetAddr := 0x05 } := by
  unfold Admitted; decide +kernel

/-- A state in order in SENDING, whose step answers next. -/
theorem witness_StepKeepsOrder :
    (sendingRste 3).InOrder ∧ ∃ t, step { sendingRste 3 with writes := [.ok] } = .next t := by
  refine ⟨⟨.inl rfl, ⟨⟨rfl, by decide +kernel, rfl, rfl⟩, by decide, rfl, rfl⟩, nofun⟩, _, rfl⟩

/-- A state in order in RECEIVING and one in FAILED. -/
theorem witness_OrderedMachineNeverFaults :
    (receivingRste true rsteFrame).InOrder ∧
      { State.reset with fsm := .failed, op := .setaddr, err := .invalidArgument }.InOrder := by
  exact ⟨⟨.inl rfl, ⟨⟨rfl, by decide +kernel, rfl, rfl⟩, rfl, by decide, rfl⟩, nofun⟩,
    ⟨.inl rfl, ⟨fun _ => ⟨rfl, by decide +kernel⟩, nofun⟩, nofun⟩⟩

theorem witness_StepKeepsConfiguration : step (idleWith [.offer 0x20000]) ≠ .refused (.reservedOp 5) ∧
    ∃ t, step (idleWith [.offer 0x20000]) = .next t := ⟨nofun, _, rfl⟩

theorem witness_DecodeEncodeAgree : encode (.reserved7 true 0xFFFF) = some 0xFFFFF ∧ encode (.read false 0) = some 0 := by
  decide

theorem witness_ReservedCodesRefused :
    State.reset.fsm = .idle ∧ (idleWith [.offer 0x50000]).port = .offer 0x50000 :: [] ∧
      5 ≤ (opField 0x50000).toNat ∧ 5 ≤ (opField 0xFFFFF).toNat := by
  decide

theorem witness_BusyCommandOnlySetsBusyFault : (sendingRste 0).fsm ≠ .idle ∧ (receivingRste true []).fsm ≠ .idle := by decide

theorem witness_ReservedCodesRefusedWhileBusy : (sendingRste 0).fsm ≠ .idle ∧ (receivingRste true []).fsm ≠ .idle := by decide

theorem witness_SingleBitErrorsDetected :
    Cfg.default.crcPoly = 0xA001 ∧ 0 < 8 * (([] : List Byte).length + 2) ∧ 31 < 8 * (([0xF8, 0x42] : List Byte).length + 2) := by
  decide

theorem witness_CrcVerifyComparesTrailer : ([] : List Byte).length < 2 ∧ ([0x12] : List Byte).length < 2 := by decide

theorem witness_FrameValidateChecksInOrder :
    ([0xF8, 0x42] : List Byte).length = (2 : Byte).toNat ∧ ([0xF8, 0x42] : List Byte).length ≠ (3 : Byte).toNat := by decide

theorem witness_EmptyResponseNeverValid : (1 : Byte) ≠ 0 := by decide

theorem witness_DecodeMeasReadsFixedOffsets :
    frameRA.length = 25 ∧ (frameRA.take 24).length ≠ 25 ∧ (0 :: frameRA).length ≠ 25 := by decide

theorem witness_AlarmExactInEitherByteOrder :
    frameRB.length = 25 ∧ decodeMeas? Cfg.default frameRB = some ⟨2250, 74565, 131073, 16777216, 500, 95, true⟩ :=
  ⟨by decide, test_decodeMeas_RB.1⟩

theorem witness_ThresholdReadsItsTwoBytes : ([0xF8, 0x03, 0x02, 0x08, 0xFC, 0x23, 0xD1] : List Byte).length = 7 := by decide

theorem witness_ReadLoadsItsRequest : State.reset.fsm = .idle := rfl

theorem witness_RsteLoadsItsRequest : State.reset.fsm = .idle := rfl

theorem witness_SetthrLoadsItsRequest : State.reset.fsm = .idle := rfl

theorem witness_GetthrLoadsItsRequest : State.reset.fsm = .idle := rfl

theorem witness_SetaddrLoadsItsRequest :
    State.reset.fsm = .idle ∧
      (State.reset.cfg.addrMin.toNat ≤ (0x01 : Half).toNat ∧ (0x01 : Half).toNat ≤ State.reset.cfg.addrMax.toNat) ∧
      (State.reset.cfg.addrMin.toNat ≤ (0xF7 : Half).toNat ∧ (0xF7 : Half).toNat ≤ State.reset.cfg.addrMax.toNat) := by
  decide

theorem witness_IllegalAddressRejected :
    State.reset.fsm = .idle ∧ (0x00 : Half).toNat < State.reset.cfg.addrMin.toNat ∧
      State.reset.cfg.addrMax.toNat < (0xF8 : Half).toNat ∧ State.reset.cfg.addrMax.toNat < (0xFFFF : Half).toNat := by
  decide

theorem witness_BusyFaultIsSticky :
    (∃ t, step { sendingRste 0 with port := [.offer 0x20000] } = .next t ∧ t.busyFault = true) ∧
      { idleWith [.pause] with busyFault := true }.busyFault = true ∧ CallerEvent.reset ∉ (idleWith [.pause]).port :=
  ⟨⟨_, rfl, rfl⟩, rfl, by decide⟩

theorem witness_StepRunsOfferedCommand :
    (idleWith [.offer 0]).port = .offer 0 :: [] ∧ (idleWith [.offerIdle 0]).port = .offerIdle 0 :: [] ∧
      (idleWith [.offerIdle 0]).fsm = .idle ∧ (idleWith [.pause]).port = .pause :: [] ∧ (idleWith []).port = [] ∧
      { sendingRste 0 with port := [.offerIdle 0] }.port = .offerIdle 0 :: [] ∧
      { sendingRste 0 with port := [.offerIdle 0] }.fsm ≠ .idle := by
  decide

theorem witness_SendStepWritesNextByte :
    let s := { sendingRste 3 with writes := [.ok], port := [.offerIdle 0] }
    let e := { sendingRste 0 with writes := [.err] }
    (s.fsm = .sending ∧ s.writeStuck = false ∧ s.txIdx < s.txLen ∧ s.txBuf[s.txIdx]? = some 0x41 ∧ s.writes = .ok :: []) ∧
      (e.fsm = .sending ∧ e.writeStuck = false ∧ e.txIdx < e.txLen ∧ e.txBuf[e.txIdx]? = some 0xF8 ∧ e.writes = .err :: []) := by
  decide

theorem witness_PollStepTakesOneAnswer :
    let s := receivingRste true [0xF8, 0x42, 0xC2]
    (s.fsm = .receiving ∧ s.rxCnt < s.rxLen ∧ s.rxLen ≤ 25 ∧ s.rxBuf.length = s.rxCnt ∧ s.tmo = true) ∧
      (receivingRste false []).tmo = false ∧
      { s with polls := [.byte 0x41] }.polls = .byte 0x41 :: [] ∧
      { s with polls := [.wouldBlock], timer := [true] }.timer = true :: [] ∧
      { s with polls := [.wouldBlock], timer := [false] }.timer = false :: [] ∧
      { s with polls := [.err] }.polls = .err :: [] := by
  decide

theorem witness_UnscriptedAnswersAreSomeAnswer :
    ((sendingRste 0).fsm = .sending ∧ (sendingRste 0).writeStuck = false ∧ (sendingRste 0).writes = []) ∧
      ((receivingRste true []).fsm = .receiving ∧ (receivingRste true []).rxCnt < (receivingRste true []).rxLen ∧
        (receivingRste true []).polls = [] ∧ (receivingRste true []).tmo = true ∧ (receivingRste true []).timer = []) ∧
      { receivingRste true [] with polls := [.wouldBlock] }.polls = .wouldBlock :: [] := by
  decide

theorem witness_ValidateStepDecides :
    let s := receivingRste true rsteFrame
    let e := receivingRste true [0xF8, 0x42, 0xC2, 0x40]
    (s.fsm = .receiving ∧ s.rxCnt = s.rxLen ∧ s.rxBuf.length = s.rxCnt ∧
      frameValidate s.cfg s.rxBuf s.rxLen s.devAddr = .ok) ∧
      (e.fsm = .receiving ∧ e.rxCnt = e.rxLen ∧ e.rxBuf.length = e.rxCnt ∧
        frameValidate e.cfg e.rxBuf e.rxLen e.devAddr = .err .checksumMismatch) := by
  decide +kernel

theorem witness_ReadCommitsMeasurements :
    let s := completeWith .read 0 frameRA
    s.fsm = .complete ∧ s.op = .read ∧ s.rxCnt = 25 ∧ s.rxBuf.length = 25 ∧
      decodeMeas? s.cfg s.rxBuf = some ⟨2300, 1234, 2838, 12345, 500, 100, false⟩ := by
  decide +kernel

theorem witness_SetaddrCommitsAddress :
    let s := completeWith .setaddr 5 [0xF8, 0x06, 0x00, 0x02, 0x00, 0x05, 0xFC, 0x60]
    (s.fsm = .complete ∧ s.op = .setaddr) ∧ ∃ t, step s = .next t ∧ t.devAddr ≠ s.devAddr :=
  ⟨⟨rfl, rfl⟩, _, rfl, by decide +kernel⟩

theorem witness_RsteAndSetthrCommitNothing :
    ((completeWith .rste 0 rsteFrame).fsm = .complete ∧
      (completeWith .rste 0 rsteFrame).op = .rste) ∧ (completeWith .setthr 0 []).op = .setthr := by
  decide

theorem witness_GetthrCommitsThreshold :
    let r : List Byte := [0xF8, 0x03, 0x02, 0x08, 0xFC, 0x23, 0xD1]
    let s := completeWith .getthr 0 r
    r.length = 7 ∧ s.fsm = .complete ∧ s.op = .getthr ∧ s.rxCnt = 7 ∧ s.rxBuf = r := by
  decide

theorem witness_FailedReportPostsError :
    { idleWith [.offerIdle 0] with fsm := .failed, err := .timeout }.fsm = .failed := by
  decide

/-- A step that is no reset and that changes the measurement registers, `thr_out` or `dev_addr`, one of each. -/
theorem witness_OutputsChangeOnlyInReport :
    (∃ t, step (completeWith .read 0 frameRA) = .next t ∧ t.meas ≠ State.reset.meas ∧ t.result ≠ State.reset.result) ∧
      (∃ t, step (completeWith .getthr 0 [0xF8, 0x03, 0x02, 0x08, 0xFC, 0x23, 0xD1]) = .next t ∧
        t.thrOut ≠ State.reset.thrOut) ∧
      (∃ t, step (completeWith .setaddr 5 []) = .next t ∧ t.devAddr ≠ State.reset.devAddr) ∧
      ∀ rest, (completeWith .read 0 frameRA).port ≠ .reset :: rest := by
  refine ⟨⟨_, rfl, by decide +kernel⟩, ⟨_, rfl, by decide +kernel⟩, ⟨_, rfl, by decide +kernel⟩, fun _ h => by cases h⟩

theorem witness_EngineReadsOnlyWhatItMay :
    ∃ t, step { receivingRste true [] with polls := [.wouldBlock], timer := [false] } = .next t ∧
      t.polls = [] ∧ t.timer = [] := ⟨_, rfl, rfl, rfl⟩

/-- Two different states that agree on everything specified. -/
theorem witness_UnspecifiedStateNeverRead :
    { State.reset with arg := 5, rxLen := 7, err := .timeout, txBuf := [1] }.specified = State.reset.specified ∧
      { State.reset with arg := 5, rxLen := 7, err := .timeout, txBuf := [1] } ≠ State.reset :=
  ⟨rfl, fun h => absurd (congrArg State.arg h) (by decide)⟩

theorem witness_DutifulCallerIsServed :
    Admitted (idleWith [.offerIdle 0x20000, .pause, .reset]).cfg ∧ (idleWith [.offerIdle 0x20000, .pause, .reset]).Dutiful ∧
      (idleWith [.offerIdle 0x20000, .pause, .reset]).Claimable ∧ (idleWith [.offerIdle 0x20000, .pause, .reset]).InOrder := by
  refine ⟨by unfold Admitted; decide +kernel, ?_, rfl, .inl rfl, trivial, nofun⟩
  unfold State.Dutiful; decide

/-- T1's command with T2's would-block answers: RSTE.T, two would-block answers, then the acknowledgement; a READ waits. -/
theorem witness_TransactionCompletes :
    let p : List PollAnswer := [.wouldBlock, .byte 0xF8, .byte 0x42, .wouldBlock, .byte 0xC2, .byte 0x41]
    let s := { idleWith [.offerIdle (commandWord true Op.rste.code 0), .offerIdle 0] with
      writes := [.ok, .ok, .ok, .ok], polls := p, timer := [false, false] }
    s.fsm = .idle ∧ s.writeStuck = false ∧
      s.port = .offerIdle (commandWord true Op.rste.code 0) :: [.offerIdle 0] ∧ HeldBack [.offerIdle 0] ∧ argOk s.cfg .rste 0 = true ∧
      s.writes = List.replicate (txLenOf .rste) .ok ++ [] ∧ s.polls = p ++ [] ∧ Delivers p rsteFrame ∧
      rsteFrame.length = rxLenOf .rste ∧ frameValidate s.cfg rsteFrame (rxLenOf .rste) s.devAddr = .ok ∧
      s.timer = (if true then List.replicate (wouldBlocks p) false else []) ++ [] := by
  refine ⟨rfl, rfl, rfl, .inr ⟨_, _, rfl⟩, rfl, rfl, rfl, ⟨rfl, by decide, 0x41, rfl⟩, rfl, by decide +kernel, rfl⟩

/-- T7: a short response, then a would-block answer with an elapsed deadline. -/
theorem witness_DeadlineEndsTransaction :
    let p : List PollAnswer := [.byte 0xF8, .byte 0x42, .byte 0xC2]
    let s := { idleWith [.offerIdle (commandWord true Op.rste.code 0)] with
      writes := [.ok, .ok, .ok, .ok], polls := p ++ [PollAnswer.wouldBlock], timer := [true] }
    s.fsm = .idle ∧ s.writeStuck = false ∧ s.port = .offerIdle (commandWord true Op.rste.code 0) :: [] ∧ HeldBack [] ∧
      argOk s.cfg .rste 0 = true ∧
      s.writes = List.replicate (txLenOf .rste) .ok ++ [] ∧ s.polls = p ++ PollAnswer.wouldBlock :: [] ∧ PollAnswer.err ∉ p ∧
      (p.filterMap PollAnswer.byte?).length < rxLenOf .rste ∧
      s.timer = List.replicate (wouldBlocks p) false ++ true :: [] := by
  exact ⟨rfl, rfl, rfl, .inl rfl, by decide +kernel⟩

/-- A write error at once, and one at the last byte. -/
theorem witness_WriteErrorLeavesFragment :
    let s := { idleWith [.offerIdle (commandWord false Op.rste.code 0)] with writes := [.err] }
    let l := { idleWith [.offerIdle (commandWord false Op.rste.code 0)] with writes := [.ok, .ok, .ok, .err] }
    HeldBack [] ∧ (s.fsm = .idle ∧ s.writeStuck = false ∧
      s.port = .offerIdle (commandWord false Op.rste.code 0) :: [] ∧ argOk s.cfg .rste 0 = true ∧
      0 < txLenOf .rste ∧ s.writes = List.replicate 0 .ok ++ .err :: []) ∧
      (l.fsm = .idle ∧ argOk l.cfg .rste 0 = true ∧ 3 < txLenOf .rste ∧
        l.writes = List.replicate 3 .ok ++ .err :: []) := by
  exact ⟨.inl rfl, by decide +kernel⟩

theorem witness_SilenceWithoutTimeoutHangs :
    let s := { receivingRste false [] with
      polls := [.wouldBlock, .wouldBlock, .byte 0xF8], port := [.pause, .offerIdle 0] }
    s.port = List.replicate 1 CallerEvent.pause ++ [.offerIdle 0] ∧ HeldBack [.offerIdle 0] ∧ s.fsm = .receiving ∧ s.rxCnt < s.rxLen ∧ s.tmo = false ∧
      s.polls = List.replicate 2 PollAnswer.wouldBlock ++ [PollAnswer.byte 0xF8] :=
  ⟨rfl, .inr ⟨_, _, rfl⟩, by decide⟩

/-- A write that has not returned, and one that is about not to. -/
theorem witness_HungWriteHoldsSending :
    let s := { sendingRste 2 with writes := [.never] }
    let h := { sendingRste 2 with writeStuck := true, port := [.pause] }
    (s.fsm = .sending ∧ s.writeStuck = false ∧ s.txIdx < s.txLen ∧ s.txBuf[s.txIdx]? = some 0xC2 ∧
      s.writes = .never :: []) ∧
      h.fsm = .sending ∧ h.writeStuck = true ∧ CallerEvent.reset ∉ h.port ∧ HeldBack (sendingRste 2).port ∧
      ∃ t, claimedRun 1 h = .next t :=
  ⟨by decide, rfl, rfl, by decide, .inl rfl, _, rfl⟩

end Sys2Proof.Tests
end

section
/-! PROOFS of family `00_scope.md`: what each event of the caller makes of a step (O40), and the configuration, which no
layer of a step writes (O6). -/

namespace Sys2Proof.Machine

/-! ### A step by what stands first on the port (R6, R134) -/

theorem step_of_port_nil {s : State} (hp : s.port = []) : step s = engineStep s := by
  simp only [step, interfaceStep, hp]

theorem step_of_pause {s : State} {rest : List CallerEvent} (hp : s.port = .pause :: rest) :
    step s = engineStep (s.setPort rest) := by
  simp only [step, interfaceStep, hp]

theorem step_of_offer {s : State} {w : CommandWord} {rest : List CallerEvent} (hp : s.port = .offer w :: rest) :
    step s = exec (decodeCommand w) (s.setPort rest) := by
  simp only [step, interfaceStep, hp, runWord]

theorem step_of_offerIdle {s : State} {w : CommandWord} {rest : List CallerEvent}
    (hp : s.port = .offerIdle w :: rest) (hf : s.fsm = .idle) :
    step s = exec (decodeCommand w) (s.setPort rest) := by
  simp only [step, interfaceStep, hp, hf, if_true, runWord]

/-- IDLE is quiescent: its own step answers the same state (R120; log entry 19). -/
theorem engineStep_idle {s : State} (hf : s.fsm = .idle) : engineStep s = .next s := by
  simp only [engineStep, hf]

/-! ### The configuration through a draw, a stored byte and a commit -/

@[simp] theorem State.takeWrite_cfg (s : State) : s.takeWrite.2.cfg = s.cfg := by
  obtain ⟨ws, n, e⟩ := s.takeWrite_frame
  rw [e]

@[simp] theorem State.takePoll_cfg (s : State) : s.takePoll.2.cfg = s.cfg := by
  obtain ⟨ps, n, e⟩ := s.takePoll_frame
  rw [e]

@[simp] theorem State.takeTimer_cfg (s : State) : s.takeTimer.2.cfg = s.cfg := by
  obtain ⟨ts, n, e⟩ := s.takeTimer_frame
  rw [e]

theorem State.storeRx?_cfg {s t : State} {b : Byte} (h : s.storeRx? b = some t) : t.cfg = s.cfg := by
  rw [(State.storeRx?_eq_some.1 h).2]

theorem commit_cfg {s t : State} (h : commit s = some t) : t.cfg = s.cfg := by
  rcases commit_cases h with ⟨_, r, m, _, _, rfl⟩ | ⟨_, rfl⟩ | ⟨_, rfl⟩ | ⟨_, r, v, _, _, rfl⟩
  · exact s.setMeas_cfg m
  · exact s.setDevAddr_cfg _
  · rfl
  · exact s.setThr_cfg v

/-! ### The configuration through each of the engine's own steps (R134) -/

theorem send_cfg {s t : State} (h : send s = .next t) : t.cfg = s.cfg := by
  obtain ⟨b, _, ⟨_, rfl⟩ | ⟨_, rfl⟩ | ⟨_, rfl⟩⟩ := send_cases h
  · simp
  · simp
  · split <;> simp

theorem poll_cfg {s t : State} (h : poll s = .next t) : t.cfg = s.cfg := by
  rcases poll_cases h with ⟨b, _, hs⟩ | ⟨_, _, _, rfl⟩ | ⟨_, _, _, rfl⟩ | ⟨_, _, rfl⟩ | ⟨_, rfl⟩
  · rw [State.storeRx?_cfg hs, State.takePoll_cfg]
  all_goals simp

theorem validate_cfg {s t : State} (h : validate s = .next t) : t.cfg = s.cfg := by
  obtain ⟨r, _, ⟨_, rfl⟩ | ⟨k, _, rfl⟩⟩ := validate_cases h
  · exact s.enter_cfg _
  · exact s.fail_cfg k

theorem reportComplete_cfg {s t : State} (h : reportComplete s = .next t) : t.cfg = s.cfg := by
  obtain ⟨s1, hc, rfl⟩ := reportComplete_cases h
  rw [State.report_cfg, commit_cfg hc]

theorem engineStep_cfg {s t : State} (h : engineStep s = .next t) : t.cfg = s.cfg := by
  rcases engineStep_cases h with
    ⟨_, rfl⟩ | ⟨_, _, rfl⟩ | ⟨_, _, hs⟩ | ⟨_, _, hp⟩ | ⟨_, _, hv⟩ | ⟨_, hr⟩ | ⟨_, rfl⟩
  · rfl
  · rfl
  · exact send_cfg hs
  · exact poll_cfg hp
  · exact validate_cfg hv
  · exact reportComplete_cfg hr
  · exact s.report_cfg _

/-! ### The configuration through each of the caller's events -/

/-- All an ACCEPT step can do: a legal command starts its transaction, an illegal operand fails, and outside IDLE only
`busy_fault` is set (R121, R188). -/
theorem accept_cases {op : Op} {tmo : Bool} {arg : Half} {s t : State} (h : accept op tmo arg s = .next t) :
    (s.fsm = .idle ∧ argOk s.cfg op arg = true ∧
      t = (if tmo then ((s.latch op tmo arg).load (request s.cfg op arg s.devAddr) (rxLenOf op)).startTimer
        else (s.latch op tmo arg).load (request s.cfg op arg s.devAddr) (rxLenOf op)).enter .sending) ∨
    (s.fsm = .idle ∧ argOk s.cfg op arg = false ∧ t = (s.latch op tmo arg).fail .invalidArgument) ∨
    (s.fsm ≠ .idle ∧ t = s.raiseBusy) := by
  by_cases hf : s.fsm = .idle
  · cases ha : argOk s.cfg op arg
    · rw [accept_idle_bad hf ha] at h; cases h; exact .inr (.inl ⟨hf, rfl, rfl⟩)
    · rw [accept_idle_ok hf ha] at h; cases h; exact .inl ⟨hf, rfl, rfl⟩
  · rw [accept_busy hf] at h; cases h; exact .inr (.inr ⟨hf, rfl⟩)

theorem accept_cfg {op : Op} {tmo : Bool} {arg : Half} {s t : State} (h : accept op tmo arg s = .next t) :
    t.cfg = s.cfg := by
  rcases accept_cases h with ⟨_, _, rfl⟩ | ⟨_, _, rfl⟩ | ⟨_, rfl⟩
  · cases tmo <;> simp
  · simp
  · exact s.raiseBusy_cfg

theorem runWord_cfg {w : CommandWord} {s t : State} (h : runWord w s = .next t) : t.cfg = s.cfg := by
  obtain ⟨op, ha, _⟩ := runWord_cases h
  exact accept_cfg ha

theorem applyReset_cfg {s t : State} (h : applyReset s = .next t) : t.cfg = s.cfg := by
  obtain ⟨_, rfl⟩ := applyReset_cases h
  exact s.resetEngine_cfg

theorem step_cfg {s t : State} (h : step s = .next t) : t.cfg = s.cfg := by
  rcases step_cases h with
    ⟨_, he⟩ | ⟨rest, _, he⟩ | ⟨rest, _, hr⟩ | ⟨w, rest, _, hw⟩ | ⟨w, rest, _, _, hw⟩ | ⟨w, rest, _, _, he⟩
  · exact engineStep_cfg he
  · rw [engineStep_cfg he, State.setPort_cfg]
  · rw [applyReset_cfg hr, State.setPort_cfg]
  · rw [runWord_cfg hw, State.setPort_cfg]
  · rw [runWord_cfg hw, State.setPort_cfg]
  · exact engineStep_cfg he

/-! ### The obligations -/

/-- Settles O6: every case of a step, the caller's event or the engine's own, keeps `cfg`. -/
theorem stepKeepsConfiguration : Obligations.StepKeepsConfiguration :=
  fun _ _ h => step_cfg h

/-- Settles O40: one equation of `step` per event on the port; a word held back outside IDLE is `step_heldBack`. -/
theorem stepRunsOfferedCommand : Obligations.StepRunsOfferedCommand := by
  intro s w rest
  refine ⟨step_of_offer, step_of_offerIdle, fun hp hf => ?heldBack, step_of_pause, step_of_port_nil,
    fun hp hf => ?quiescent⟩
  case heldBack => exact step_heldBack (.inr ⟨w, rest, hp⟩) hf
  case quiescent => rw [step_of_port_nil hp, engineStep_idle hf]

end Sys2Proof.Machine
end

section
/-! PROOFS of family `10_state.md`: the invariant of the machine (O3, O4), its progress (O5), the unspecified fields
(O54), `busy_fault` (O39), the outputs (O52) and the sequencer's codes (O50). -/

namespace Sys2Proof.Machine

/-! ### The sequencer's codes (R22) -/

theorem Fsm.code_lt (q : Fsm) : q.code.toNat < 5 := by cases q <;> decide

/-- Settles O50: the codes are the definition's, and none of the five is above 4. -/
theorem sequencerCodes : Obligations.SequencerCodes :=
  ⟨rfl, rfl, rfl, rfl, rfl, Fsm.code_lt⟩

/-! ### The outputs and `busy_fault` (R28 to R31)

What the caller sees of the engine. Only the two REPORT steps, an offer outside IDLE and a reset write any of it. -/

/-- What the caller sees of an operation, `busy_fault` aside. -/
def State.outputs (s : State) : Measurement × Half × Byte × Result := (s.meas, s.thrOut, s.devAddr, s.result)

/-- All that the caller sees. -/
def State.shown (s : State) : (Measurement × Half × Byte × Result) × Bool := (s.outputs, s.busyFault)

theorem State.takeWrite_shown (s : State) : s.takeWrite.2.shown = s.shown := by
  obtain ⟨ws, n, e⟩ := s.takeWrite_frame
  rw [e]; rfl

theorem State.takePoll_shown (s : State) : s.takePoll.2.shown = s.shown := by
  obtain ⟨ps, n, e⟩ := s.takePoll_frame
  rw [e]; rfl

theorem State.takeTimer_shown (s : State) : s.takeTimer.2.shown = s.shown := by
  obtain ⟨ts, n, e⟩ := s.takeTimer_frame
  rw [e]; rfl

theorem send_shown {s t : State} (h : send s = .next t) : t.shown = s.shown := by
  obtain ⟨b, _, ⟨_, rfl⟩ | ⟨_, rfl⟩ | ⟨_, rfl⟩⟩ := send_cases h
  · exact s.takeWrite_shown
  · exact s.takeWrite_shown
  · split <;> exact s.takeWrite_shown

theorem poll_shown {s t : State} (h : poll s = .next t) : t.shown = s.shown := by
  rcases poll_cases h with ⟨b, _, hs⟩ | ⟨_, _, _, rfl⟩ | ⟨_, _, _, rfl⟩ | ⟨_, _, rfl⟩ | ⟨_, rfl⟩
  · obtain ⟨_, rfl⟩ := State.storeRx?_eq_some.1 hs
    exact s.takePoll_shown
  · exact (State.takeTimer_shown _).trans s.takePoll_shown
  · exact (State.takeTimer_shown _).trans s.takePoll_shown
  · exact s.takePoll_shown
  · exact s.takePoll_shown

theorem validate_shown {s t : State} (h : validate s = .next t) : t.shown = s.shown := by
  obtain ⟨r, _, ⟨_, rfl⟩ | ⟨k, _, rfl⟩⟩ := validate_cases h <;> rfl

/-- The engine's own step writes what is shown only where it reports. -/
theorem engineStep_shown {s t : State} (h : engineStep s = .next t) :
    t.shown = s.shown ∨ (s.fsm = .complete ∧ reportComplete s = .next t) ∨ (s.fsm = .failed ∧ t = s.reportFailed) := by
  rcases engineStep_cases h with
    ⟨_, rfl⟩ | ⟨_, _, rfl⟩ | ⟨_, _, hs⟩ | ⟨_, _, hp⟩ | ⟨_, _, hv⟩ | hr | hr
  · exact .inl rfl
  · exact .inl rfl
  · exact .inl (send_shown hs)
  · exact .inl (poll_shown hp)
  · exact .inl (validate_shown hv)
  · exact .inr (.inl hr)
  · exact .inr (.inr hr)

theorem accept_outputs {op : Op} {tmo : Bool} {arg : Half} {s t : State} (h : accept op tmo arg s = .next t) :
    t.outputs = s.outputs := by
  rcases accept_cases h with ⟨_, _, rfl⟩ | ⟨_, _, rfl⟩ | ⟨_, rfl⟩
  · cases tmo <;> rfl
  · rfl
  · rfl

theorem runWord_outputs {w : CommandWord} {s t : State} (h : runWord w s = .next t) : t.outputs = s.outputs := by
  obtain ⟨_, ha, _⟩ := runWord_cases h
  exact accept_outputs ha

/-! ### Outputs change only in a REPORT step (R29, R30, R132, R133) -/

/-- `t` has the outputs of `s`, but for those that a REPORT step from `s` writes. -/
def OutputsFollowReport (s t : State) : Prop :=
  (t.meas ≠ s.meas → s.fsm = .complete ∧ s.op = .read ∧ t.fsm = .idle ∧ t.result = .ok) ∧
  (t.thrOut ≠ s.thrOut → s.fsm = .complete ∧ s.op = .getthr ∧ t.fsm = .idle ∧ t.result = .ok) ∧
  (t.devAddr ≠ s.devAddr → s.fsm = .complete ∧ s.op = .setaddr ∧ t.fsm = .idle ∧ t.result = .ok) ∧
  (t.result ≠ s.result → t.fsm = .idle ∧
    ((s.fsm = .complete ∧ t.result = .ok) ∨ (s.fsm = .failed ∧ t.result = .error s.err)))

theorem outputsFollowReport_of_outputs_eq {s t : State} (h : t.outputs = s.outputs) : OutputsFollowReport s t := by
  simp only [State.outputs, Prod.mk.injEq] at h
  obtain ⟨hm, ht, ha, hr⟩ := h
  exact ⟨fun hn => absurd hm hn, fun hn => absurd ht hn, fun hn => absurd ha hn, fun hn => absurd hr hn⟩

/-- The caller's remaining events have no part in it. -/
theorem OutputsFollowReport.of_setPort {s t : State} {es : List CallerEvent}
    (h : OutputsFollowReport (s.setPort es) t) : OutputsFollowReport s t := h

/-- The REPORT step from COMPLETE writes the output of its own operation only. -/
theorem reportComplete_outputs {s t : State} (hf : s.fsm = .complete) (h : reportComplete s = .next t) :
    OutputsFollowReport s t := by
  obtain ⟨s1, hc, rfl⟩ := reportComplete_cases h
  have hr : (s1.report .ok).fsm = .idle ∧ (s1.report .ok).result = .ok := ⟨rfl, rfl⟩
  rcases commit_cases hc with ⟨ho, r, m, _, _, rfl⟩ | ⟨ho, rfl⟩ | ⟨_, rfl⟩ | ⟨ho, r, v, _, _, rfl⟩
  · exact ⟨fun _ => ⟨hf, ho, hr⟩, fun hn => absurd rfl hn, fun hn => absurd rfl hn, fun _ => ⟨rfl, .inl ⟨hf, rfl⟩⟩⟩
  · exact ⟨fun hn => absurd rfl hn, fun hn => absurd rfl hn, fun _ => ⟨hf, ho, hr⟩, fun _ => ⟨rfl, .inl ⟨hf, rfl⟩⟩⟩
  · exact ⟨fun hn => absurd rfl hn, fun hn => absurd rfl hn, fun hn => absurd rfl hn, fun _ => ⟨rfl, .inl ⟨hf, rfl⟩⟩⟩
  · exact ⟨fun hn => absurd rfl hn, fun _ => ⟨hf, ho, hr⟩, fun hn => absurd rfl hn, fun _ => ⟨rfl, .inl ⟨hf, rfl⟩⟩⟩

/-- The REPORT step from FAILED writes `result` only. -/
theorem reportFailed_outputs {s : State} (hf : s.fsm = .failed) : OutputsFollowReport s s.reportFailed :=
  ⟨fun hn => absurd rfl hn, fun hn => absurd rfl hn, fun hn => absurd rfl hn, fun _ => ⟨rfl, .inr ⟨hf, rfl⟩⟩⟩

theorem engineStep_outputs {s t : State} (h : engineStep s = .next t) : OutputsFollowReport s t := by
  rcases engineStep_shown h with hs | ⟨hf, hr⟩ | ⟨hf, rfl⟩
  · exact outputsFollowReport_of_outputs_eq (congrArg Prod.fst hs)
  · exact reportComplete_outputs hf hr
  · exact reportFailed_outputs hf

/-- Settles O52: a command writes no output, and of the engine's own steps only the two REPORT steps do. -/
theorem outputsChangeOnlyInReport : Obligations.OutputsChangeOnlyInReport := by
  intro s t h hreset
  change OutputsFollowReport s t
  rcases step_cases h with
    ⟨_, he⟩ | ⟨rest, _, he⟩ | ⟨rest, hp, _⟩ | ⟨w, rest, _, hw⟩ | ⟨w, rest, _, _, hw⟩ | ⟨w, rest, _, _, he⟩
  · exact engineStep_outputs he
  · exact (engineStep_outputs he).of_setPort
  · exact absurd hp (hreset rest)
  · exact (outputsFollowReport_of_outputs_eq (runWord_outputs hw)).of_setPort
  · exact (outputsFollowReport_of_outputs_eq (runWord_outputs hw)).of_setPort
  · exact engineStep_outputs he

/-! ### `busy_fault` is sticky (R31, R188) -/

theorem commit_busyFault {s t : State} (h : commit s = some t) : t.busyFault = s.busyFault := by
  rcases commit_cases h with ⟨_, r, m, _, _, rfl⟩ | ⟨_, rfl⟩ | ⟨_, rfl⟩ | ⟨_, r, v, _, _, rfl⟩ <;> rfl

theorem engineStep_busyFault {s t : State} (h : engineStep s = .next t) : t.busyFault = s.busyFault := by
  rcases engineStep_shown h with hs | ⟨_, hr⟩ | ⟨_, rfl⟩
  · exact congrArg Prod.snd hs
  · obtain ⟨s1, hc, rfl⟩ := reportComplete_cases hr
    exact commit_busyFault (t := s1) hc
  · rfl

theorem accept_busyFault {op : Op} {tmo : Bool} {arg : Half} {s t : State} (h : accept op tmo arg s = .next t) :
    t.busyFault = true ↔ s.busyFault = true ∨ s.fsm ≠ .idle := by
  rcases accept_cases h with ⟨hf, _, rfl⟩ | ⟨hf, _, rfl⟩ | ⟨hf, rfl⟩
  · cases tmo <;> simp [hf]
  · simp [hf]
  · simp [hf]

theorem runWord_busyFault {w : CommandWord} {s t : State} (h : runWord w s = .next t) :
    t.busyFault = true ↔ s.busyFault = true ∨ s.fsm ≠ .idle := by
  obtain ⟨_, ha, _⟩ := runWord_cases h
  exact accept_busyFault ha

theorem step_busyFault {s t : State} (h : step s = .next t) :
    t.busyFault = true ↔
      (∀ rest, s.port ≠ .reset :: rest) ∧
        (s.busyFault = true ∨ (s.fsm ≠ .idle ∧ ∃ w rest, s.port = .offer w :: rest)) := by
  rcases step_cases h with
    ⟨hp, he⟩ | ⟨rest, hp, he⟩ | ⟨rest, hp, hr⟩ | ⟨w, rest, hp, hw⟩ | ⟨w, rest, hp, hf, hw⟩ | ⟨w, rest, hp, _, he⟩
  · simp [engineStep_busyFault he, hp]
  · simp [engineStep_busyFault he, hp]
  · obtain ⟨_, rfl⟩ := applyReset_cases hr
    simp [hp]
  · simp [runWord_busyFault hw, hp]
  · simp [runWord_busyFault hw, hp, hf]
  · simp [engineStep_busyFault he, hp]

/-! ### A run from a state with `busy_fault` set -/

theorem accept_port {op : Op} {tmo : Bool} {arg : Half} {s t : State} (h : accept op tmo arg s = .next t) :
    t.port = s.port := by
  rcases accept_cases h with ⟨_, _, rfl⟩ | ⟨_, _, rfl⟩ | ⟨_, rfl⟩
  · cases tmo <;> rfl
  · rfl
  · rfl

theorem runWord_port {w : CommandWord} {s t : State} (h : runWord w s = .next t) : t.port = s.port := by
  obtain ⟨_, ha, _⟩ := runWord_cases h
  exact accept_port ha

/-- A step takes at most the caller's next event off the port. -/
theorem step_port {s t : State} (h : step s = .next t) : t.port = s.port ∨ ∃ e, s.port = e :: t.port := by
  rcases step_cases h with
    ⟨_, he⟩ | ⟨rest, hp, he⟩ | ⟨rest, hp, hr⟩ | ⟨w, rest, hp, hw⟩ | ⟨w, rest, hp, _, hw⟩ | ⟨w, rest, _, _, he⟩
  · exact .inl (engineStep_port he)
  · exact .inr ⟨_, by rw [engineStep_port he, hp, State.setPort_port]⟩
  · obtain ⟨_, rfl⟩ := applyReset_cases hr
    exact .inr ⟨_, hp⟩
  · exact .inr ⟨_, by rw [runWord_port hw, hp, State.setPort_port]⟩
  · exact .inr ⟨_, by rw [runWord_port hw, hp, State.setPort_port]⟩
  · exact .inl (engineStep_port he)

theorem step_reset_not_mem_port {s t : State} (h : step s = .next t) (hr : .reset ∉ s.port) : .reset ∉ t.port := by
  rcases step_port h with hp | ⟨e, hp⟩
  · rwa [hp]
  · exact fun hm => hr (hp ▸ List.mem_cons_of_mem e hm)

/-- Without a reset the bit stays set (R31, R188). -/
theorem step_keeps_busyFault {s t : State} (h : step s = .next t) (hr : .reset ∉ s.port) (hb : s.busyFault = true) :
    t.busyFault = true :=
  (step_busyFault h).2 ⟨fun _ hp => hr (hp ▸ List.mem_cons_self), .inl hb⟩

theorem run_keeps_busyFault {n : Nat} {s t : State} (h : run n s = .next t) (hr : .reset ∉ s.port)
    (hb : s.busyFault = true) : t.busyFault = true := by
  induction n generalizing s with
  | zero => cases h; exact hb
  | succ n ih =>
    simp only [run] at h
    split at h
    · next u hu => exact ih h (step_reset_not_mem_port hu hr) (step_keeps_busyFault hu hr hb)
    · cases h
    · cases h

/-- Settles O39: the exact condition is `step_busyFault`, and a run that keeps the bit is no claim's. -/
theorem busyFaultIsSticky : Obligations.BusyFaultIsSticky := by
  refine ⟨fun _ _ => step_busyFault, fun s n hb hr t hc => ?noClaim⟩
  case noClaim =>
    obtain ⟨hrun, hclear⟩ := claimedRun_eq_next.1 hc
    rw [run_keeps_busyFault hrun hr hb] at hclear
    cases hclear

/-! ### The invariant by the state of the sequencer (R21, R124, R126) -/

theorem sequenceInOrder_sending {s : State} (hf : s.fsm = .sending) :
    s.sequenceInOrder ↔ s.underWay ∧ s.txIdx < s.txLen ∧ s.rxCnt = 0 ∧ s.rxBuf = [] := by
  simp only [State.sequenceInOrder, hf]

theorem sequenceInOrder_receiving {s : State} (hf : s.fsm = .receiving) :
    s.sequenceInOrder ↔ s.underWay ∧ s.txIdx = s.txLen ∧ s.rxCnt ≤ s.rxLen ∧ s.rxBuf.length = s.rxCnt := by
  simp only [State.sequenceInOrder, hf]

theorem sequenceInOrder_complete {s : State} (hf : s.fsm = .complete) :
    s.sequenceInOrder ↔ s.underWay ∧ s.txIdx = s.txLen ∧ s.rxCnt = s.rxLen ∧ s.rxBuf.length = s.rxCnt ∧
      frameValidate s.cfg s.rxBuf s.rxLen s.devAddr = .ok := by
  simp only [State.sequenceInOrder, hf]

theorem writeStuck_eq_false_of_writeInOrder {s : State} (hw : s.writeInOrder) (hf : s.fsm ≠ .sending) :
    s.writeStuck = false :=
  Bool.eq_false_iff.2 fun h => hf (hw h)

theorem writeInOrder_of_not_stuck {s : State} (hw : s.writeStuck = false) : s.writeInOrder :=
  fun h => absurd h (by simp [hw])

/-- In IDLE nothing is asked but the address. -/
theorem inOrder_of_idle {s : State} (hf : s.fsm = .idle) (ha : s.addrInOrder) (hw : s.writeStuck = false) : s.InOrder :=
  ⟨ha, by simp only [State.sequenceInOrder, hf], writeInOrder_of_not_stuck hw⟩

/-- Failure entry keeps the order where the operation can have the kind (R182). -/
theorem fail_inOrder {s : State} {k : ErrKind} (ha : s.addrInOrder) (hw : s.writeStuck = false)
    (hi : k = .invalidArgument → s.op = .setaddr ∧ legalAddr s.cfg s.arg = false)
    (hu : k = .unexpectedResponse → s.devAddr ≠ s.cfg.addrGeneral) : (s.fail k).InOrder :=
  ⟨ha, ⟨hi, hu⟩, writeInOrder_of_not_stuck hw⟩

/-! ### Reset is in order (R24, R210, R211) -/

theorem resetAddrOk_iff {cfg : Cfg} :
    resetAddrOk cfg = true ↔
      cfg.resetAddr = cfg.addrGeneral ∨ legalAddr cfg (cfg.resetAddr.setWidth 16) = true := by
  simp [resetAddrOk]

theorem resetWith_inOrder {cfg : Cfg} (h : Admitted cfg) : (State.resetWith cfg).InOrder :=
  inOrder_of_idle rfl (resetAddrOk_iff.1 h) rfl

theorem admitted_default : Admitted Cfg.default := by
  unfold Admitted
  decide

/-- Settles O3: in IDLE only the address and the write are asked for, and the adopted configuration is admitted. -/
theorem resetIsInOrder : Obligations.ResetIsInOrder :=
  ⟨resetWith_inOrder admitted_default, fun _ => resetWith_inOrder⟩

theorem applyReset_inOrder {s t : State} (h : applyReset s = .next t) : t.InOrder := by
  obtain ⟨hr, rfl⟩ := applyReset_cases h
  exact inOrder_of_idle rfl (resetAddrOk_iff.1 hr) rfl

/-! ### ACCEPT keeps the order -/

/-- A request has the length R71 gives its operation. -/
theorem request_length (cfg : Cfg) (op : Op) (arg : Half) (a : Byte) :
    (request cfg op arg a).length = txLenOf op := by
  cases op <;> rfl

theorem txLenOf_pos (op : Op) : 0 < txLenOf op := by cases op <;> decide

/-- Only SETADDR has an operand check (R121). -/
theorem argOk_eq_false {cfg : Cfg} {op : Op} {arg : Half} (h : argOk cfg op arg = false) :
    op = .setaddr ∧ legalAddr cfg arg = false := by
  cases op <;> simp_all [argOk]

theorem accept_inOrder {op : Op} {tmo : Bool} {arg : Half} {s t : State} (hs : s.InOrder)
    (h : accept op tmo arg s = .next t) : t.InOrder := by
  obtain ⟨ha, hq, hw⟩ := hs
  rcases accept_cases h with ⟨hf, hok, rfl⟩ | ⟨hf, hbad, rfl⟩ | ⟨_, rfl⟩
  case inl =>
    have hlen := request_length s.cfg op arg s.devAddr
    have hpos : 0 < (request s.cfg op arg s.devAddr).length := hlen ▸ txLenOf_pos op
    cases tmo <;> exact ⟨ha, ⟨⟨hok, rfl, hlen, rfl⟩, hpos, rfl, rfl⟩, fun _ => rfl⟩
  case inr.inl =>
    have hstuck : s.writeStuck = false := writeStuck_eq_false_of_writeInOrder hw (by simp [hf])
    exact fail_inOrder ha hstuck (fun _ => argOk_eq_false hbad) nofun
  case inr.inr => exact ⟨ha, hq, hw⟩

theorem runWord_inOrder {w : CommandWord} {s t : State} (hs : s.InOrder) (h : runWord w s = .next t) : t.InOrder := by
  obtain ⟨_, ha, _⟩ := runWord_cases h
  exact accept_inOrder hs ha

/-! ### The engine's own steps keep the order -/

theorem State.takeWrite_fsm (s : State) : s.takeWrite.2.fsm = s.fsm := by
  obtain ⟨ws, n, e⟩ := s.takeWrite_frame
  rw [e]

theorem State.takePoll_fsm (s : State) : s.takePoll.2.fsm = s.fsm := by
  obtain ⟨ps, n, e⟩ := s.takePoll_frame
  rw [e]

theorem State.takeTimer_fsm (s : State) : s.takeTimer.2.fsm = s.fsm := by
  obtain ⟨ts, n, e⟩ := s.takeTimer_frame
  rw [e]

theorem State.takeWrite_writeStuck (s : State) : s.takeWrite.2.writeStuck = s.writeStuck := by
  obtain ⟨ws, n, e⟩ := s.takeWrite_frame
  rw [e]

/-- The order does not speak of the environment's answers. -/
theorem takeWrite_inOrder {s : State} (hs : s.InOrder) : s.takeWrite.2.InOrder := by
  obtain ⟨ws, n, e⟩ := s.takeWrite_frame
  rw [e]; exact hs

theorem takePoll_inOrder {s : State} (hs : s.InOrder) : s.takePoll.2.InOrder := by
  obtain ⟨ps, n, e⟩ := s.takePoll_frame
  rw [e]; exact hs

theorem takeTimer_inOrder {s : State} (hs : s.InOrder) : s.takeTimer.2.InOrder := by
  obtain ⟨ts, n, e⟩ := s.takeTimer_frame
  rw [e]; exact hs

/-- The transport took the byte: SENDING below the request's length, RECEIVING at it (R123, R124). -/
theorem sent_inOrder {s : State} (b : Byte) (hs : s.InOrder) (hf : s.fsm = .sending) (hstuck : s.writeStuck = false) :
    (if (s.sent b).txIdx = (s.sent b).txLen then (s.sent b).enter .receiving else s.sent b).InOrder := by
  obtain ⟨ha, hq, _⟩ := hs
  obtain ⟨hu, hi, hc, hb⟩ := (sequenceInOrder_sending hf).1 hq
  split
  case isTrue hlast =>
    exact ⟨ha, ⟨hu, hlast, by simp [hc], by simp [hb, hc]⟩, writeInOrder_of_not_stuck hstuck⟩
  case isFalse hmore =>
    exact ⟨ha, (sequenceInOrder_sending (by exact hf)).2 ⟨hu, Nat.lt_of_le_of_ne hi hmore, hc, hb⟩, fun _ => hf⟩

theorem send_inOrder {s t : State} (hs : s.InOrder) (hf : s.fsm = .sending) (hstuck : s.writeStuck = false)
    (h : send s = .next t) : t.InOrder := by
  have hf1 : s.takeWrite.2.fsm = .sending := s.takeWrite_fsm.trans hf
  have hstuck1 : s.takeWrite.2.writeStuck = false := s.takeWrite_writeStuck.trans hstuck
  have hs1 := takeWrite_inOrder hs
  have ⟨ha1, hq1, _⟩ := hs1
  obtain ⟨b, _, ⟨_, rfl⟩ | ⟨_, rfl⟩ | ⟨_, rfl⟩⟩ := send_cases h
  · exact fail_inOrder ha1 hstuck1 nofun nofun
  · exact ⟨ha1, hq1, fun _ => hf1⟩
  · exact sent_inOrder b hs1 hf1 hstuck1

/-- A byte received below the expected length (R125, R126). -/
theorem storeRx?_inOrder {s t : State} {b : Byte} (hs : s.InOrder) (hf : s.fsm = .receiving) (hlt : s.rxCnt < s.rxLen)
    (h : s.storeRx? b = some t) : t.InOrder := by
  obtain ⟨ha, hq, hw⟩ := hs
  obtain ⟨hu, hi, _, hb⟩ := (sequenceInOrder_receiving hf).1 hq
  obtain ⟨_, rfl⟩ := State.storeRx?_eq_some.1 h
  exact ⟨ha, (sequenceInOrder_receiving (by exact hf)).2 ⟨hu, hi, hlt, by simp [hb]⟩, hw⟩

/-- The two failures of a POLL step, which any operation can have (R182). -/
theorem poll_fail_inOrder {s : State} {k : ErrKind} (hs : s.InOrder) (hf : s.fsm = .receiving)
    (hk : k = .timeout ∨ k = .transportRead) : (s.fail k).InOrder := by
  obtain ⟨ha, _, hw⟩ := hs
  have hstuck : s.writeStuck = false := writeStuck_eq_false_of_writeInOrder hw (by simp [hf])
  rcases hk with rfl | rfl <;> exact fail_inOrder ha hstuck nofun nofun

theorem poll_inOrder {s t : State} (hs : s.InOrder) (hf : s.fsm = .receiving) (hlt : s.rxCnt < s.rxLen)
    (h : poll s = .next t) : t.InOrder := by
  have hs1 := takePoll_inOrder hs
  have hf1 : s.takePoll.2.fsm = .receiving := s.takePoll_fsm.trans hf
  rcases poll_cases h with ⟨b, _, hst⟩ | ⟨_, _, _, rfl⟩ | ⟨_, _, _, rfl⟩ | ⟨_, _, rfl⟩ | ⟨_, rfl⟩
  · have hlt1 : s.takePoll.2.rxCnt < s.takePoll.2.rxLen := by
      obtain ⟨ps, n, e⟩ := s.takePoll_frame
      rw [e]; exact hlt
    exact storeRx?_inOrder hs1 hf1 hlt1 hst
  · exact poll_fail_inOrder (takeTimer_inOrder hs1) ((State.takeTimer_fsm _).trans hf1) (.inl rfl)
  · exact takeTimer_inOrder hs1
  · exact hs1
  · exact poll_fail_inOrder hs1 hf1 (.inr rfl)

/-- An address check that fails was made: the request went to an address of its own (R104). -/
theorem ne_addrGeneral_of_addrOk_eq_false {cfg : Cfg} {r : List Byte} {a : Byte} (h : addrOk cfg r a = false) :
    a ≠ cfg.addrGeneral := by
  rintro rfl
  simp [addrOk] at h

theorem validate_inOrder {s t : State} (hs : s.InOrder) (hf : s.fsm = .receiving) (heq : s.rxCnt = s.rxLen)
    (h : validate s = .next t) : t.InOrder := by
  obtain ⟨ha, hq, hw⟩ := hs
  have hstuck : s.writeStuck = false := writeStuck_eq_false_of_writeInOrder hw (by simp [hf])
  obtain ⟨hu, hi, _, hb⟩ := (sequenceInOrder_receiving hf).1 hq
  obtain ⟨r, hr, hv⟩ := validate_cases h
  have hlen : s.rxBuf.length = s.rxLen := hb.trans heq
  obtain rfl : s.rxBuf = r := by
    rw [← (State.rxBytes?_eq_some.1 hr).2, ← hlen, List.take_length]
  rcases hv with ⟨hok, rfl⟩ | ⟨k, herr, rfl⟩
  · exact ⟨ha, ⟨hu, hi, heq, hb, hok⟩, writeInOrder_of_not_stuck hstuck⟩
  · rcases frameValidate_err herr with ⟨rfl, _⟩ | ⟨rfl, hn | hao⟩
    · exact fail_inOrder ha hstuck nofun nofun
    · exact absurd hlen hn
    · exact fail_inOrder ha hstuck nofun fun _ => ne_addrGeneral_of_addrOk_eq_false hao

/-- A legal address fits in the byte SETADDR commits (R160, R162). -/
theorem addrValue_eq_of_legal {cfg : Cfg} {arg : Half} (h : legalAddr cfg arg = true) : addrValue arg = arg := by
  have hle : arg.toNat ≤ cfg.addrMax.toNat := (of_decide_eq_true h).2
  have hmax := cfg.addrMax.isLt
  apply BitVec.eq_of_toNat_eq
  simp only [addrValue, lowByte, BitVec.toNat_setWidth, BitVec.extractLsb'_toNat, Nat.shiftRight_zero]
  omega

theorem commit_addrInOrder {s t : State} (ha : s.addrInOrder) (hu : s.underWay) (h : commit s = some t) :
    t.addrInOrder := by
  rcases commit_cases h with ⟨_, r, m, _, _, rfl⟩ | ⟨ho, rfl⟩ | ⟨_, rfl⟩ | ⟨_, r, v, _, _, rfl⟩
  · exact ha
  · have hlegal : legalAddr s.cfg s.arg = true := by simpa [argOk, ho] using hu.1
    refine .inr ?_
    change legalAddr s.cfg (addrValue s.arg) = true
    rwa [addrValue_eq_of_legal hlegal]
  · exact ha
  · exact ha

theorem commit_writeStuck {s t : State} (h : commit s = some t) : t.writeStuck = s.writeStuck := by
  rcases commit_cases h with ⟨_, r, m, _, _, rfl⟩ | ⟨_, rfl⟩ | ⟨_, rfl⟩ | ⟨_, r, v, _, _, rfl⟩ <;> rfl

theorem reportComplete_inOrder {s t : State} (hs : s.InOrder) (hf : s.fsm = .complete)
    (h : reportComplete s = .next t) : t.InOrder := by
  obtain ⟨ha, hq, hw⟩ := hs
  obtain ⟨hu, _⟩ := (sequenceInOrder_complete hf).1 hq
  have hstuck : s.writeStuck = false := writeStuck_eq_false_of_writeInOrder hw (by simp [hf])
  obtain ⟨s1, hc, rfl⟩ := reportComplete_cases h
  exact inOrder_of_idle rfl (commit_addrInOrder (t := s1) ha hu hc) ((commit_writeStuck (t := s1) hc).trans hstuck)

theorem reportFailed_inOrder {s : State} (hs : s.InOrder) (hf : s.fsm = .failed) : s.reportFailed.InOrder := by
  obtain ⟨ha, _, hw⟩ := hs
  exact inOrder_of_idle rfl ha (writeStuck_eq_false_of_writeInOrder (s := s) hw (by simp [hf]))

theorem engineStep_inOrder {s t : State} (hs : s.InOrder) (h : engineStep s = .next t) : t.InOrder := by
  rcases engineStep_cases h with
    ⟨_, rfl⟩ | ⟨_, _, rfl⟩ | ⟨hf, hw, h'⟩ | ⟨hf, hlt, h'⟩ | ⟨hf, heq, h'⟩ | ⟨hf, h'⟩ | ⟨hf, rfl⟩
  · exact hs
  · exact hs
  · exact send_inOrder hs hf hw h'
  · exact poll_inOrder hs hf hlt h'
  · exact validate_inOrder hs hf heq h'
  · exact reportComplete_inOrder hs hf h'
  · exact reportFailed_inOrder hs hf

/-- The order does not speak of the caller's events. -/
theorem setPort_inOrder {s : State} (hs : s.InOrder) (es : List CallerEvent) : (s.setPort es).InOrder := hs

theorem step_inOrder {s t : State} (hs : s.InOrder) (h : step s = .next t) : t.InOrder := by
  rcases step_cases h with
    ⟨_, he⟩ | ⟨rest, _, he⟩ | ⟨rest, _, hr⟩ | ⟨w, rest, _, hw⟩ | ⟨w, rest, _, _, hw⟩ | ⟨w, rest, _, _, he⟩
  · exact engineStep_inOrder hs he
  · exact engineStep_inOrder (setPort_inOrder hs rest) he
  · exact applyReset_inOrder hr
  · exact runWord_inOrder (setPort_inOrder hs rest) hw
  · exact runWord_inOrder (setPort_inOrder hs rest) hw
  · exact engineStep_inOrder hs he

/-- Settles O4: each of the engine's steps, each command and a reset keeps the order. -/
theorem stepKeepsOrder : Obligations.StepKeepsOrder :=
  fun _ _ hs h => step_inOrder hs h

/-! ### Progress: where the engine's own steps answer next (R26, R43, R134) -/

theorem send_next {s : State} {b : Byte} (hb : s.txByte? = some b) : ∃ t, send s = .next t := by
  simp only [send, hb]
  split <;> exact ⟨_, rfl⟩

theorem poll_next {s : State} (hmax : s.rxCnt < Config.rxMax) (hbuf : s.rxCnt ≤ s.rxBuf.length) :
    ∃ t, poll s = .next t := by
  obtain ⟨ps, n, e⟩ := s.takePoll_frame
  unfold poll
  split
  next b s1 hp =>
    obtain rfl : s.takePoll.2 = s1 := by rw [hp]
    rw [(State.storeRx?_eq_some (s := s.takePoll.2) (b := b)).2 ⟨by rw [e]; exact ⟨hmax, hbuf⟩, rfl⟩]
    exact ⟨_, rfl⟩
  next s1 hp =>
    split
    · split <;> exact ⟨_, rfl⟩
    · exact ⟨_, rfl⟩
  next s1 hp => exact ⟨_, rfl⟩

theorem validate_next {s : State} (hcnt : s.rxLen ≤ s.rxCnt) (hbuf : s.rxLen ≤ s.rxBuf.length) :
    ∃ t, validate s = .next t := by
  simp only [validate, State.rxBytes?_eq_some.2 ⟨⟨hcnt, hbuf⟩, rfl⟩]
  split <;> exact ⟨_, rfl⟩

/-- A list of `n` bytes is the list of its `n` entries. -/
theorem exists_ofFn_of_length {n : Nat} {r : List Byte} (h : r.length = n) : ∃ f : Fin n → Byte, r = List.ofFn f :=
  ⟨fun i => r[i], by subst h; exact List.ofFn_getElem.symm⟩

/-- DECODE_MEAS has a value on 25 bytes (R152). -/
theorem decodeMeas?_of_length (cfg : Cfg) {r : List Byte} (h : r.length = 25) : ∃ m, decodeMeas? cfg r = some m := by
  obtain ⟨f, rfl⟩ := exists_ofFn_of_length h
  exact ⟨_, rfl⟩

/-- DECODE_THR has a value on 7 bytes (R154). -/
theorem decodeThr?_of_length {r : List Byte} (h : r.length = 7) : ∃ v, decodeThr? r = some v := by
  obtain ⟨f, rfl⟩ := exists_ofFn_of_length h
  exact ⟨_, rfl⟩
/-- A whole response in the buffer is all a commit reads (R108, R132). -/
theorem commit_some {s : State} (hcnt : s.rxCnt = rxLenOf s.op) (hbuf : s.rxBuf.length = rxLenOf s.op) :
    ∃ t, commit s = some t := by
  cases ho : s.op <;> simp only [ho, rxLenOf] at hcnt hbuf <;> simp only [commit, ho]
  case read =>
    obtain ⟨m, hm⟩ := decodeMeas?_of_length s.cfg hbuf
    have hr : s.rxBytes? 25 = some s.rxBuf :=
      State.rxBytes?_eq_some.2 ⟨⟨hcnt.ge, hbuf.ge⟩, by rw [← hbuf, List.take_length]⟩
    exact ⟨s.setMeas m, by simp only [commitRead, hr, hm]⟩
  case setaddr => exact ⟨_, rfl⟩
  case rste => exact ⟨_, rfl⟩
  case setthr => exact ⟨_, rfl⟩
  case getthr =>
    obtain ⟨v, hv⟩ := decodeThr?_of_length hbuf
    have hr : s.rxBytes? 7 = some s.rxBuf :=
      State.rxBytes?_eq_some.2 ⟨⟨hcnt.ge, hbuf.ge⟩, by rw [← hbuf, List.take_length]⟩
    exact ⟨s.setThr v, by simp only [commitGetthr, hr, hv]⟩

theorem rxLenOf_le_rxMax (op : Op) : rxLenOf op ≤ Config.rxMax := by cases op <;> decide

/-- In SENDING the next byte of the request is there to be written (R123). -/
theorem txByte?_of_underWay {s : State} (hu : s.underWay) (hi : s.txIdx < s.txLen) : ∃ b, s.txByte? = some b := by
  obtain ⟨_, hbuf, hlen, _⟩ := hu
  have hb : s.txIdx < s.txBuf.length := by rw [hbuf, request_length, ← hlen]; exact hi
  exact ⟨s.txBuf[s.txIdx], State.txByte?_eq_some.2 ⟨hi, List.getElem?_eq_getElem hb⟩⟩

theorem engineStep_polling {s : State} (hf : s.fsm = .receiving) (hc : s.rxCnt < s.rxLen) : engineStep s = poll s := by
  simp only [engineStep, hf, if_pos hc]

theorem engineStep_full {s : State} (hf : s.fsm = .receiving) (hc : s.rxCnt = s.rxLen) :
    engineStep s = validate s := by
  simp only [engineStep, hf, hc, lt_irrefl, if_false, if_true]

/-- Above the expected length no step is enabled (R134; log entry 20). -/
theorem engineStep_overfull {s : State} (hf : s.fsm = .receiving) (hc : s.rxLen < s.rxCnt) :
    engineStep s = .fault .noStepEnabled := by
  simp only [engineStep, hf, if_neg hc.not_gt, if_neg hc.ne']

theorem engineStep_complete {s : State} (hf : s.fsm = .complete) : engineStep s = reportComplete s := by
  simp only [engineStep, hf]

theorem engineStep_failed {s : State} (hf : s.fsm = .failed) : engineStep s = .next s.reportFailed := by
  simp only [engineStep, hf]

/-- In order, the engine's own step answers a next state in every state of the sequencer. -/
theorem engineStep_next {s : State} (hs : s.InOrder) : ∃ t, engineStep s = .next t := by
  obtain ⟨_, hq, _⟩ := hs
  cases hf : s.fsm with
  | idle => exact ⟨s, engineStep_idle hf⟩
  | sending =>
    obtain ⟨hu, hi, _, _⟩ := (sequenceInOrder_sending hf).1 hq
    cases hw : s.writeStuck with
    | true => exact ⟨s, engineStep_stuck hf hw⟩
    | false =>
      obtain ⟨b, hb⟩ := txByte?_of_underWay hu hi
      rw [engineStep_sending hf hw]
      exact send_next hb
  | receiving =>
    obtain ⟨⟨_, _, _, hlen⟩, _, hle, hb⟩ := (sequenceInOrder_receiving hf).1 hq
    rcases hle.lt_or_eq with hlt | heq
    · have hmax : s.rxCnt < Config.rxMax := hlt.trans_le (hlen ▸ rxLenOf_le_rxMax s.op)
      rw [engineStep_polling hf hlt]
      exact poll_next hmax hb.ge
    · rw [engineStep_full hf heq]
      exact validate_next heq.ge (heq ▸ hb.ge)
  | complete =>
    obtain ⟨⟨_, _, _, hlen⟩, _, heq, hb, _⟩ := (sequenceInOrder_complete hf).1 hq
    have hcnt : s.rxCnt = rxLenOf s.op := heq.trans hlen
    obtain ⟨s1, hc⟩ := commit_some hcnt (hb.trans hcnt)
    exact ⟨s1.report .ok, by simp only [engineStep_complete hf, reportComplete, hc]⟩
  | failed => exact ⟨s.reportFailed, engineStep_failed hf⟩

/-! ### The caller's events never fault -/

/-- A word's meaning, the same in every state: an operation's ACCEPT step, or a refusal (R61, R63). -/
theorem runWord_eq (w : CommandWord) :
    (∃ op tmo arg, ∀ s, runWord w s = accept op tmo arg s) ∨ ∃ r, ∀ s, runWord w s = .refused r := by
  unfold runWord decodeCommand
  split
  · exact .inl ⟨.read, tmoField w, argField w, fun _ => rfl⟩
  · exact .inl ⟨.setaddr, tmoField w, argField w, fun _ => rfl⟩
  · exact .inl ⟨.rste, tmoField w, argField w, fun _ => rfl⟩
  · exact .inl ⟨.setthr, tmoField w, argField w, fun _ => rfl⟩
  · exact .inl ⟨.getthr, tmoField w, argField w, fun _ => rfl⟩
  · exact .inr ⟨.reservedOp 5, fun _ => rfl⟩
  · exact .inr ⟨.reservedOp 6, fun _ => rfl⟩
  · exact .inr ⟨.reservedOp 7, fun _ => rfl⟩

theorem accept_next (op : Op) (tmo : Bool) (arg : Half) (s : State) : ∃ t, accept op tmo arg s = .next t := by
  by_cases hf : s.fsm = .idle
  · cases ha : argOk s.cfg op arg
    · exact ⟨_, accept_idle_bad hf ha⟩
    · exact ⟨_, accept_idle_ok hf ha⟩
  · exact ⟨_, accept_busy hf⟩

theorem runWord_ne_fault (w : CommandWord) (s : State) (r : Fault) : runWord w s ≠ .fault r := by
  rcases runWord_eq w with ⟨op, tmo, arg, hw⟩ | ⟨q, hw⟩
  · obtain ⟨t, ht⟩ := accept_next op tmo arg s
    simp [hw, ht]
  · simp [hw]

theorem applyReset_ne_fault (s : State) (r : Fault) : applyReset s ≠ .fault r := by
  unfold applyReset
  split <;> nofun

theorem engineStep_ne_fault {s : State} (hs : s.InOrder) (r : Fault) : engineStep s ≠ .fault r := by
  obtain ⟨t, ht⟩ := engineStep_next hs
  simp [ht]

/-! ### Which layer a step runs -/

theorem setPort_self {s : State} {es : List CallerEvent} (hp : s.port = es) : s.setPort es = s := by
  subst hp
  rfl

/-- What runs in a step, the engine, a reset or a word, is settled by the caller's next event and the state of the
sequencer (R6, R134; log entry 3). -/
theorem step_layer (s : State) :
    (∃ es, ∀ u : State, u.port = s.port → u.fsm = s.fsm → step u = engineStep (u.setPort es)) ∨
    (∃ es, ∀ u : State, u.port = s.port → u.fsm = s.fsm → step u = applyReset (u.setPort es)) ∨
    (∃ w es, ∀ u : State, u.port = s.port → u.fsm = s.fsm → step u = runWord w (u.setPort es)) := by
  cases hp : s.port with
  | nil => exact .inl ⟨[], fun u hu _ => by rw [step_of_port_nil hu, setPort_self hu]⟩
  | cons e rest =>
    cases e with
    | pause => exact .inl ⟨rest, fun u hu _ => step_of_pause hu⟩
    | reset => exact .inr (.inl ⟨rest, fun u hu _ => by simp only [step, interfaceStep, hu]⟩)
    | offer w => exact .inr (.inr ⟨w, rest, fun u hu _ => step_of_offer hu⟩)
    | offerIdle w =>
      by_cases hf : s.fsm = .idle
      · exact .inr (.inr ⟨w, rest, fun u hu hq => step_of_offerIdle hu (hq.trans hf)⟩)
      · refine .inl ⟨.offerIdle w :: rest, fun u hu hq => ?_⟩
        rw [step_heldBack (.inr ⟨w, rest, hu⟩) (hq ▸ hf), setPort_self hu]

/-- Settles O5: in order the engine's own step answers a next state, and no event of the caller faults in any state. -/
theorem orderedMachineNeverFaults : Obligations.OrderedMachineNeverFaults := by
  intro s r hs
  rcases step_layer s with ⟨es, h⟩ | ⟨es, h⟩ | ⟨w, es, h⟩ <;> rw [h s rfl rfl]
  · exact engineStep_ne_fault (setPort_inOrder hs es) r
  · exact applyReset_ne_fault _ r
  · exact runWord_ne_fault w _ r

/-! ### What the spec leaves unspecified (R27, R210)

A state and what `State.specified` keeps of it take steps that agree on everything specified; two states with one
`specified` agree through it. -/

@[simp] theorem State.specified_port (s : State) : s.specified.port = s.port := by
  unfold State.specified
  split <;> rfl

@[simp] theorem State.specified_fsm (s : State) : s.specified.fsm = s.fsm := by
  unfold State.specified
  split <;> rfl

@[simp] theorem State.specified_cfg (s : State) : s.specified.cfg = s.cfg := by
  unfold State.specified
  split <;> rfl

theorem State.specified_of_idle {s : State} (hf : s.fsm = .idle) :
    s.specified =
      { s with op := .read, arg := 0, tmo := false, txBuf := [], txLen := 0, txIdx := 0, rxBuf := [], rxLen := 0,
               rxCnt := 0, err := .timeout } := by
  simp only [State.specified, hf]

theorem State.specified_of_failed {s : State} (hf : s.fsm = .failed) :
    s.specified = { s with txBuf := [], txLen := 0, txIdx := 0, rxBuf := [], rxLen := 0, rxCnt := 0 } := by
  simp only [State.specified, hf]

theorem State.specified_setPort (s : State) (es : List CallerEvent) :
    (s.setPort es).specified = s.specified.setPort es := by
  rcases s with ⟨cfg, fsm⟩
  cases fsm <;> rfl

theorem State.specified_raiseBusy (s : State) : s.raiseBusy.specified = s.specified.raiseBusy := by
  rcases s with ⟨cfg, fsm⟩
  cases fsm <;> rfl

@[simp] theorem State.specified_specified (s : State) : s.specified.specified = s.specified := by
  rcases s with ⟨cfg, fsm⟩
  cases fsm <;> rfl

/-! ### Under way, only `err` is unspecified, and no step reads it -/

/-- `err` set to `k`, where it holds no kind of its own. -/
def State.withErr (s : State) (k : ErrKind) : State := { s with err := k }

@[simp] theorem State.withErr_cfg (s : State) (k : ErrKind) : (s.withErr k).cfg = s.cfg := rfl
@[simp] theorem State.withErr_op (s : State) (k : ErrKind) : (s.withErr k).op = s.op := rfl
@[simp] theorem State.withErr_tmo (s : State) (k : ErrKind) : (s.withErr k).tmo = s.tmo := rfl
@[simp] theorem State.withErr_devAddr (s : State) (k : ErrKind) : (s.withErr k).devAddr = s.devAddr := rfl
@[simp] theorem State.withErr_rxLen (s : State) (k : ErrKind) : (s.withErr k).rxLen = s.rxLen := rfl
@[simp] theorem State.withErr_txByte? (s : State) (k : ErrKind) : (s.withErr k).txByte? = s.txByte? := rfl
@[simp] theorem State.withErr_rxBytes? (s : State) (k : ErrKind) (n : Nat) :
    (s.withErr k).rxBytes? n = s.rxBytes? n := rfl

theorem State.specified_withErr {s : State} (k : ErrKind) (hf : s.fsm ≠ .failed) :
    (s.withErr k).specified = s.specified := by
  rcases s with ⟨cfg, fsm⟩
  cases fsm with
  | failed => exact absurd rfl hf
  | _ => rfl

/-- In SENDING, RECEIVING and COMPLETE `specified` fixes `err` alone. -/
theorem State.specified_eq_withErr {s : State} (hi : s.fsm ≠ .idle) (hf : s.fsm ≠ .failed) :
    s.specified = s.withErr .timeout := by
  rcases s with ⟨cfg, fsm⟩
  cases fsm with
  | idle => exact absurd rfl hi
  | failed => exact absurd rfl hf
  | _ => rfl

theorem State.takeWrite_withErr (s : State) (k : ErrKind) :
    (s.withErr k).takeWrite = (s.takeWrite.1, s.takeWrite.2.withErr k) := by
  cases h : s.writes with
  | nil => rw [State.takeWrite_free h, State.takeWrite_free (s := s.withErr k) h]; rfl
  | cons w ws => rw [State.takeWrite_scripted h, State.takeWrite_scripted (s := s.withErr k) h]; rfl

theorem State.takePoll_withErr (s : State) (k : ErrKind) :
    (s.withErr k).takePoll = (s.takePoll.1, s.takePoll.2.withErr k) := by
  cases h : s.polls with
  | nil => rw [State.takePoll_free h, State.takePoll_free (s := s.withErr k) h]; rfl
  | cons p ps => rw [State.takePoll_scripted h, State.takePoll_scripted (s := s.withErr k) h]; rfl

theorem State.takeTimer_withErr (s : State) (k : ErrKind) :
    (s.withErr k).takeTimer = (s.takeTimer.1, s.takeTimer.2.withErr k) := by
  cases h : s.timer with
  | nil => rw [State.takeTimer_free h, State.takeTimer_free (s := s.withErr k) h]; rfl
  | cons e es => rw [State.takeTimer_scripted h, State.takeTimer_scripted (s := s.withErr k) h]; rfl

theorem State.storeRx?_withErr (s : State) (k : ErrKind) (b : Byte) :
    (s.withErr k).storeRx? b = (s.storeRx? b).map (·.withErr k) := by
  unfold State.storeRx?
  split <;> simp_all [State.withErr]

theorem commitRead_withErr (s : State) (k : ErrKind) :
    commitRead (s.withErr k) = (commitRead s).map (·.withErr k) := by
  simp only [commitRead, State.withErr_rxBytes?]
  cases s.rxBytes? 25 with
  | none => rfl
  | some r => cases hm : decodeMeas? s.cfg r <;> simp only [State.withErr_cfg, hm] <;> rfl

theorem commitGetthr_withErr (s : State) (k : ErrKind) :
    commitGetthr (s.withErr k) = (commitGetthr s).map (·.withErr k) := by
  simp only [commitGetthr, State.withErr_rxBytes?]
  cases s.rxBytes? 7 with
  | none => rfl
  | some r => cases hv : decodeThr? r <;> simp only [hv] <;> rfl

theorem commit_withErr (s : State) (k : ErrKind) : commit (s.withErr k) = (commit s).map (·.withErr k) := by
  cases ho : s.op <;> simp only [commit, State.withErr_op, ho]
  case read => exact commitRead_withErr s k
  case setaddr => rfl
  case rste => rfl
  case setthr => rfl
  case getthr => exact commitGetthr_withErr s k

/-! ### The engine's own steps and `err` -/

theorem next_specified_withErr {s : State} (k : ErrKind) (hf : s.fsm ≠ .failed) :
    outcomeMap State.specified (.next (s.withErr k)) = outcomeMap State.specified (.next s) :=
  congrArg Host.Outcome.next (State.specified_withErr k hf)

theorem send_withErr {s : State} (k : ErrKind) (hf : s.fsm ≠ .failed) :
    outcomeMap State.specified (send (s.withErr k)) = outcomeMap State.specified (send s) := by
  have hf1 : s.takeWrite.2.fsm ≠ .failed := s.takeWrite_fsm ▸ hf
  simp only [send, State.withErr_txByte?, State.takeWrite_withErr]
  cases s.txByte? with
  | none => rfl
  | some b =>
    rcases hw : s.takeWrite with ⟨_ | _ | _, s1⟩ <;> rw [hw] at hf1
    case ok =>
      have hl : ((s1.withErr k).sent b).txIdx = ((s1.withErr k).sent b).txLen ↔ (s1.sent b).txIdx = (s1.sent b).txLen :=
        .rfl
      by_cases h : (s1.sent b).txIdx = (s1.sent b).txLen
      · simp only [hl, h, if_true]; rfl
      · simp only [hl, h, if_false]; exact next_specified_withErr (s := s1.sent b) k hf1
    case err => rfl
    case never => exact next_specified_withErr (s := s1.holdWrite) k hf1

theorem poll_withErr {s : State} (k : ErrKind) (hf : s.fsm ≠ .failed) :
    outcomeMap State.specified (poll (s.withErr k)) = outcomeMap State.specified (poll s) := by
  have hf1 : s.takePoll.2.fsm ≠ .failed := s.takePoll_fsm ▸ hf
  simp only [poll, State.takePoll_withErr]
  rcases hp : s.takePoll with ⟨b | _ | _, s1⟩ <;> rw [hp] at hf1
  case byte =>
    cases hst : s1.storeRx? b with
    | none => simp only [State.storeRx?_withErr, hst]; rfl
    | some s2 =>
      have hf2 : s2.fsm ≠ .failed := by rw [(State.storeRx?_eq_some.1 hst).2]; exact hf1
      simp only [State.storeRx?_withErr, hst]
      exact next_specified_withErr k hf2
  case wouldBlock =>
    cases ht : s1.tmo with
    | false => simp only [State.withErr_tmo, ht]; exact next_specified_withErr k hf1
    | true =>
      have hf2 : s1.takeTimer.2.fsm ≠ .failed := s1.takeTimer_fsm ▸ hf1
      simp only [State.withErr_tmo, ht, if_true, State.takeTimer_withErr]
      rcases he : s1.takeTimer with ⟨_ | _, s2⟩ <;> rw [he] at hf2
      case false => exact next_specified_withErr k hf2
      case true => rfl
  case err => rfl

theorem validate_withErr (s : State) (k : ErrKind) :
    outcomeMap State.specified (validate (s.withErr k)) = outcomeMap State.specified (validate s) := by
  simp only [validate, State.withErr_rxBytes?, State.withErr_rxLen, State.withErr_cfg, State.withErr_devAddr]
  cases s.rxBytes? s.rxLen with
  | none => rfl
  | some r => cases hv : frameValidate s.cfg r s.rxLen s.devAddr <;> simp only [hv] <;> rfl

theorem reportComplete_withErr (s : State) (k : ErrKind) :
    outcomeMap State.specified (reportComplete (s.withErr k)) = outcomeMap State.specified (reportComplete s) := by
  cases hc : commit s <;> simp only [reportComplete, commit_withErr, hc] <;> rfl

/-- `err` is read in FAILED only. -/
theorem engineStep_withErr {s : State} (k : ErrKind) (hf : s.fsm ≠ .failed) :
    outcomeMap State.specified (engineStep (s.withErr k)) = outcomeMap State.specified (engineStep s) := by
  have hq' : (s.withErr k).fsm = s.fsm := rfl
  cases hq : s.fsm with rw [hq] at hq'
  | idle =>
    rw [engineStep_idle hq, engineStep_idle hq']
    exact next_specified_withErr k hf
  | sending =>
    cases hw : s.writeStuck with
    | false =>
      rw [engineStep_sending hq hw, engineStep_sending hq' hw]
      exact send_withErr k hf
    | true =>
      rw [engineStep_stuck hq hw, engineStep_stuck hq' hw]
      exact next_specified_withErr k hf
  | receiving =>
    rcases lt_trichotomy s.rxCnt s.rxLen with hc | hc | hc
    · rw [engineStep_polling hq hc, engineStep_polling hq' hc]
      exact poll_withErr k hf
    · rw [engineStep_full hq hc, engineStep_full hq' hc]
      exact validate_withErr s k
    · rw [engineStep_overfull hq hc, engineStep_overfull hq' hc]
  | complete =>
    rw [engineStep_complete hq, engineStep_complete hq']
    exact reportComplete_withErr s k
  | failed => exact absurd hq hf

/-! ### Each layer of a step and the unspecified fields -/

theorem engineStep_specified (s : State) :
    outcomeMap State.specified (engineStep s.specified) = outcomeMap State.specified (engineStep s) := by
  by_cases hi : s.fsm = .idle
  · rw [engineStep_idle hi, engineStep_idle (s.specified_fsm.trans hi)]
    exact congrArg Host.Outcome.next s.specified_specified
  by_cases hf : s.fsm = .failed
  · rw [engineStep_failed hf, engineStep_failed (s.specified_fsm.trans hf), State.specified_of_failed hf]
    rfl
  · rw [State.specified_eq_withErr hi hf]
    exact engineStep_withErr _ hf

/-- ACCEPT writes in IDLE all that was unspecified there, and reads none of it (R121). -/
theorem accept_specified (op : Op) (tmo : Bool) (arg : Half) (s : State) :
    outcomeMap State.specified (accept op tmo arg s.specified) = outcomeMap State.specified (accept op tmo arg s) := by
  by_cases hi : s.fsm = .idle
  · have hi' : s.specified.fsm = .idle := s.specified_fsm.trans hi
    have hcfg : s.specified.cfg = s.cfg := s.specified_cfg
    cases ha : argOk s.cfg op arg
    · rw [accept_idle_bad hi ha, accept_idle_bad hi' (hcfg ▸ ha), State.specified_of_idle hi]
      rfl
    · rw [accept_idle_ok hi ha, accept_idle_ok hi' (hcfg ▸ ha), State.specified_of_idle hi]
      cases tmo <;> rfl
  · have hi' : s.specified.fsm ≠ .idle := s.specified_fsm ▸ hi
    rw [accept_busy hi, accept_busy hi', ← State.specified_raiseBusy]
    exact congrArg Host.Outcome.next s.raiseBusy.specified_specified

theorem runWord_specified (w : CommandWord) (s : State) :
    outcomeMap State.specified (runWord w s.specified) = outcomeMap State.specified (runWord w s) := by
  rcases runWord_eq w with ⟨op, tmo, arg, h⟩ | ⟨r, h⟩
  · rw [h, h]; exact accept_specified op tmo arg s
  · rw [h, h]

theorem State.resetEngine_specified (s : State) : s.specified.resetEngine = s.resetEngine := by
  rcases s with ⟨cfg, fsm⟩
  cases fsm <;> rfl

theorem applyReset_specified (s : State) : applyReset s.specified = applyReset s := by
  simp only [applyReset, s.specified_cfg, s.resetEngine_specified]

theorem step_specified (s : State) :
    outcomeMap State.specified (step s.specified) = outcomeMap State.specified (step s) := by
  rcases step_layer s with ⟨es, h⟩ | ⟨es, h⟩ | ⟨w, es, h⟩ <;>
    rw [h s rfl rfl, h s.specified s.specified_port s.specified_fsm, ← State.specified_setPort]
  · exact engineStep_specified _
  · rw [applyReset_specified]
  · exact runWord_specified w _

/-- Settles O54: both states take the step of what is specified in them. -/
theorem unspecifiedStateNeverRead : Obligations.UnspecifiedStateNeverRead := by
  intro s1 s2 h
  calc outcomeMap State.specified (step s1)
      = outcomeMap State.specified (step s1.specified) := (step_specified s1).symm
    _ = outcomeMap State.specified (step s2.specified) := by rw [h]
    _ = outcomeMap State.specified (step s2) := step_specified s2

end Sys2Proof.Machine
end

section
/-! PROOFS of family `20_memory.md`: byte and word orders (O13), the answers of the environment that a step takes (O43,
O53), and a write that never returns (O60). -/

namespace Sys2Proof.Machine

/-! ### Byte and word orders (R46 to R48) -/

/-- Two halves of `n` bits put together: the high one weighs `2 ^ n`. -/
theorem toNat_shiftLeft_or_setWidth {n m : Nat} (x y : BitVec n) (hm : n + n ≤ m) :
    (x.setWidth m <<< n ||| y.setWidth m).toNat = 2 ^ n * x.toNat + y.toNat := by
  have hpow : 2 ^ n * 2 ^ n ≤ 2 ^ m := by rw [← Nat.pow_add]; exact Nat.pow_le_pow_right two_pos hm
  have hle : 2 ^ n ≤ 2 ^ m := Nat.pow_le_pow_right two_pos (by omega)
  have hx : 2 ^ n * x.toNat < 2 ^ m := (Nat.mul_lt_mul_of_pos_left x.isLt (by positivity)).trans_le hpow
  simp only [BitVec.toNat_or, BitVec.toNat_shiftLeft, BitVec.toNat_setWidth, Nat.mod_eq_of_lt (x.isLt.trans_le hle),
    Nat.mod_eq_of_lt (y.isLt.trans_le hle), Nat.shiftLeft_eq, Nat.mul_comm x.toNat, Nat.mod_eq_of_lt hx]
  exact (Nat.two_pow_add_eq_or_of_lt y.isLt x.toNat).symm

theorem toNat_be16 (x y : Byte) : (be16 x y).toNat = 256 * x.toNat + y.toNat :=
  toNat_shiftLeft_or_setWidth x y le_rfl

theorem toNat_le16 (x y : Byte) : (le16 x y).toNat = 256 * y.toNat + x.toNat :=
  toNat_shiftLeft_or_setWidth y x le_rfl

theorem toNat_joinWords (high low : Half) : (joinWords high low).toNat = 65536 * high.toNat + low.toNat :=
  toNat_shiftLeft_or_setWidth high low le_rfl

/-- Settles O13: each order joins two halves, and the high half weighs 256 or 65536. -/
theorem byteAndWordOrders : Obligations.ByteAndWordOrders :=
  fun _ _ _ _ => ⟨toNat_be16 _ _, toNat_le16 _ _, toNat_joinWords _ _, toNat_joinWords _ _⟩

/-! ### A free draw is the draw of a script that holds its value (R41, R42, R129)

The scripted state has its counter one ahead, as a free draw leaves it. -/

theorem State.takeWrite_script_free {s : State} (h : s.writes = []) :
    State.takeWrite { s with writes := [Config.freeWrite s.draws], draws := s.draws + 1 } = s.takeWrite := by
  rw [State.takeWrite_free h, State.takeWrite_scripted rfl, ← h]

theorem State.takePoll_script_free {s : State} (h : s.polls = []) :
    State.takePoll { s with polls := [Config.freePoll s.draws], draws := s.draws + 1 } = s.takePoll := by
  rw [State.takePoll_free h, State.takePoll_scripted rfl, ← h]

theorem State.takeTimer_script_free {s : State} (h : s.timer = []) :
    State.takeTimer { s with timer := [Config.freeElapsed s.draws], draws := s.draws + 1 } = s.takeTimer := by
  rw [State.takeTimer_free h, State.takeTimer_scripted rfl, ← h]

/-! ### What SEND and POLL read of the state -/

/-- SEND reads the state through its next byte and the write's answer only (R123). -/
theorem send_congr {s t : State} (hb : s.txByte? = t.txByte?) (hw : s.takeWrite = t.takeWrite) : send s = send t := by
  simp only [send, hb, hw]

/-- POLL reads the state through the poll's answer only (R125). -/
theorem poll_congr {s t : State} (h : s.takePoll = t.takePoll) : poll s = poll t := by
  simp only [poll, h]

/-- After a would-block answer with `tmo`, POLL reads the state through the timer's answer only (R128). -/
theorem poll_congr_timer {s t s1 t1 : State} (hs : s.takePoll = (.wouldBlock, s1)) (ht : t.takePoll = (.wouldBlock, t1))
    (hs1 : s1.tmo = true) (ht1 : t1.tmo = true) (h : s1.takeTimer = t1.takeTimer) : poll s = poll t := by
  simp only [poll, hs, ht, hs1, ht1, if_true, h]

/-- Settles O43: the answer is the free value itself. -/
theorem unscriptedAnswersAreSomeAnswer : Obligations.UnscriptedAnswersAreSomeAnswer := by
  intro s
  refine ⟨fun hf hw h => ⟨Config.freeWrite s.draws, ?write⟩, fun hf hc h => ⟨Config.freePoll s.draws, ?poll⟩,
    fun hf hc ht h ps hp => ⟨Config.freeElapsed s.draws, ?timer⟩⟩
  case write =>
    rw [engineStep_sending hf hw, engineStep_sending (by exact hf) (by exact hw)]
    exact send_congr rfl (State.takeWrite_script_free h).symm
  case poll =>
    rw [engineStep_polling hf hc, engineStep_polling (by exact hf) (by exact hc)]
    exact poll_congr (State.takePoll_script_free h).symm
  case timer =>
    rw [engineStep_polling hf hc, engineStep_polling (by exact hf) (by exact hc)]
    exact poll_congr_timer (State.takePoll_scripted hp) (State.takePoll_scripted hp) ht ht
      (State.takeTimer_script_free (s := { s with polls := ps }) h).symm

/-! ### The answers a step takes (R45, R54, R126, R128) -/

/-- What the environment has yet to answer: the three scripts, and how many free draws were taken. -/
def State.answers (s : State) : List WriteAnswer × List PollAnswer × List Bool × Nat :=
  (s.writes, s.polls, s.timer, s.draws)

theorem State.answers_eq_iff {t : State} {ws : List WriteAnswer} {ps : List PollAnswer} {ts : List Bool} {n : Nat} :
    t.answers = (ws, ps, ts, n) ↔ t.writes = ws ∧ t.polls = ps ∧ t.timer = ts ∧ t.draws = n := by
  simp only [State.answers, Prod.mk.injEq]

/-- Between `s` and `t` no answer is taken but those a step may take. -/
def TakesOnlyWhatItMay (s t : State) : Prop :=
  (t.polls = s.polls ∨ (s.fsm = .receiving ∧ s.rxCnt < s.rxLen ∧ ∃ p, s.polls = p :: t.polls)) ∧
  (t.writes = s.writes ∨ (s.fsm = .sending ∧ s.writeStuck = false ∧ ∃ w, s.writes = w :: t.writes)) ∧
  (t.timer = s.timer ∨ (s.fsm = .receiving ∧ s.rxCnt < s.rxLen ∧ s.tmo = true ∧
    (∀ p ps, s.polls = p :: ps → p = .wouldBlock) ∧ ∃ e, s.timer = e :: t.timer)) ∧
  (t.draws = s.draws ∨
    (s.fsm = .sending ∧ s.writeStuck = false ∧ s.writes = [] ∧ t.draws = s.draws + 1) ∨
    (s.fsm = .receiving ∧ s.rxCnt < s.rxLen ∧
      ((s.polls = [] ∧ t.draws = s.draws + 1) ∨
        (s.tmo = true ∧ s.timer = [] ∧ (∀ p ps, s.polls = p :: ps → p = .wouldBlock) ∧
          t.draws = s.draws + (if s.polls = [] then 2 else 1)))))

theorem takesOnlyWhatItMay_of_answers_eq {s t : State} (h : t.answers = s.answers) : TakesOnlyWhatItMay s t := by
  obtain ⟨hw, hp, ht, hd⟩ := State.answers_eq_iff.1 h
  exact ⟨.inl hp, .inl hw, .inl ht, .inl hd⟩

/-- The caller's remaining events have no part in it. -/
theorem TakesOnlyWhatItMay.of_setPort {s t : State} {es : List CallerEvent}
    (h : TakesOnlyWhatItMay (s.setPort es) t) : TakesOnlyWhatItMay s t := h

/-! #### Steps that take none -/

theorem validate_answers {s t : State} (h : validate s = .next t) : t.answers = s.answers := by
  obtain ⟨r, _, ⟨_, rfl⟩ | ⟨k, _, rfl⟩⟩ := validate_cases h <;> rfl

theorem commit_answers {s t : State} (h : commit s = some t) : t.answers = s.answers := by
  rcases commit_cases h with ⟨_, r, m, _, _, rfl⟩ | ⟨_, rfl⟩ | ⟨_, rfl⟩ | ⟨_, r, v, _, _, rfl⟩ <;> rfl

theorem reportComplete_answers {s t : State} (h : reportComplete s = .next t) : t.answers = s.answers := by
  obtain ⟨s1, hc, rfl⟩ := reportComplete_cases h
  exact commit_answers (t := s1) hc

theorem accept_answers {op : Op} {tmo : Bool} {arg : Half} {s t : State} (h : accept op tmo arg s = .next t) :
    t.answers = s.answers := by
  rcases accept_cases h with ⟨_, _, rfl⟩ | ⟨_, _, rfl⟩ | ⟨_, rfl⟩
  · cases tmo <;> rfl
  · rfl
  · rfl

theorem runWord_answers {w : CommandWord} {s t : State} (h : runWord w s = .next t) : t.answers = s.answers := by
  obtain ⟨_, ha, _⟩ := runWord_cases h
  exact accept_answers ha

theorem applyReset_answers {s t : State} (h : applyReset s = .next t) : t.answers = s.answers := by
  obtain ⟨_, rfl⟩ := applyReset_cases h
  rfl

/-! #### SEND and POLL -/

/-- SEND takes the write's answer and no other. -/
theorem send_answers {s t : State} (h : send s = .next t) : t.answers = s.takeWrite.2.answers := by
  obtain ⟨b, _, ⟨_, rfl⟩ | ⟨_, rfl⟩ | ⟨_, rfl⟩⟩ := send_cases h
  · rfl
  · rfl
  · split <;> rfl

/-- POLL takes the poll's answer, and the timer's after a would-block answer with `tmo`. -/
theorem poll_answers {s t : State} (h : poll s = .next t) :
    t.answers = s.takePoll.2.answers ∨
      (s.takePoll.1 = .wouldBlock ∧ s.takePoll.2.tmo = true ∧ t.answers = s.takePoll.2.takeTimer.2.answers) := by
  rcases poll_cases h with ⟨b, _, hs⟩ | ⟨hw, ht, _, rfl⟩ | ⟨hw, ht, _, rfl⟩ | ⟨_, _, rfl⟩ | ⟨_, rfl⟩
  · obtain ⟨_, rfl⟩ := State.storeRx?_eq_some.1 hs
    exact .inl rfl
  · exact .inr ⟨hw, ht, rfl⟩
  · exact .inr ⟨hw, ht, rfl⟩
  · exact .inl rfl
  · exact .inl rfl

theorem send_takesOnlyWhatItMay {s t : State} (hf : s.fsm = .sending) (hstuck : s.writeStuck = false)
    (h : send s = .next t) : TakesOnlyWhatItMay s t := by
  have ha := send_answers h
  cases hw : s.writes with
  | nil =>
    rw [State.takeWrite_free hw] at ha
    obtain ⟨hw', hp', ht', hd'⟩ := State.answers_eq_iff.1 ha
    exact ⟨.inl hp', .inl hw', .inl ht', .inr (.inl ⟨hf, hstuck, hw, hd'⟩)⟩
  | cons w ws =>
    rw [State.takeWrite_scripted hw] at ha
    obtain ⟨hw', hp', ht', hd'⟩ := State.answers_eq_iff.1 ha
    exact ⟨.inl hp', .inr ⟨hf, hstuck, w, hw'.symm ▸ hw⟩, .inl ht', .inl hd'⟩

/-- A free poll answer, and at most one answer of the timer, scripted or free. -/
theorem poll_free_takesOnlyWhatItMay {s t : State} (hf : s.fsm = .receiving) (hc : s.rxCnt < s.rxLen)
    (hp : s.polls = []) (h : poll s = .next t) : TakesOnlyWhatItMay s t := by
  have hnone : ∀ p ps, s.polls = p :: ps → p = .wouldBlock := fun p ps h' => absurd (hp.symm.trans h') nofun
  have ha := poll_answers h
  rw [State.takePoll_free hp] at ha
  rcases ha with ha | ⟨_, htmo, ha⟩
  · obtain ⟨hw', hp', ht', hd'⟩ := State.answers_eq_iff.1 ha
    exact ⟨.inl hp', .inl hw', .inl ht', .inr (.inr ⟨hf, hc, .inl ⟨hp, hd'⟩⟩)⟩
  · cases ht : s.timer with
    | nil =>
      rw [State.takeTimer_free (by exact ht)] at ha
      change t.answers = (s.writes, s.polls, s.timer, s.draws + 2) at ha
      obtain ⟨hw', hp', ht', hd'⟩ := State.answers_eq_iff.1 ha
      exact ⟨.inl hp', .inl hw', .inl ht', .inr (.inr ⟨hf, hc, .inr ⟨htmo, ht, hnone, by rw [if_pos hp]; exact hd'⟩⟩)⟩
    | cons e es =>
      rw [State.takeTimer_scripted (by exact ht)] at ha
      change t.answers = (s.writes, s.polls, es, s.draws + 1) at ha
      obtain ⟨hw', hp', ht', hd'⟩ := State.answers_eq_iff.1 ha
      exact ⟨.inl hp', .inl hw', .inr ⟨hf, hc, htmo, hnone, e, ht'.symm ▸ ht⟩, .inr (.inr ⟨hf, hc, .inl ⟨hp, hd'⟩⟩)⟩

/-- The poll answer the script holds, and at most one answer of the timer, scripted or free, if it is would-block. -/
theorem poll_scripted_takesOnlyWhatItMay {s t : State} {p : PollAnswer} {ps : List PollAnswer} (hf : s.fsm = .receiving)
    (hc : s.rxCnt < s.rxLen) (hp : s.polls = p :: ps) (h : poll s = .next t) : TakesOnlyWhatItMay s t := by
  have ha := poll_answers h
  rw [State.takePoll_scripted hp] at ha
  rcases ha with ha | ⟨rfl, htmo, ha⟩
  · obtain ⟨hw', hp', ht', hd'⟩ := State.answers_eq_iff.1 ha
    exact ⟨.inr ⟨hf, hc, p, hp'.symm ▸ hp⟩, .inl hw', .inl ht', .inl hd'⟩
  · have hwb : ∀ q qs, s.polls = q :: qs → q = .wouldBlock := fun q qs h' => by
      rw [hp] at h'; exact (List.cons.inj h').1.symm
    cases ht : s.timer with
    | nil =>
      rw [State.takeTimer_free (by exact ht)] at ha
      change t.answers = (s.writes, ps, s.timer, s.draws + 1) at ha
      obtain ⟨hw', hp', ht', hd'⟩ := State.answers_eq_iff.1 ha
      have hne : s.polls ≠ [] := by simp [hp]
      exact ⟨.inr ⟨hf, hc, _, hp'.symm ▸ hp⟩, .inl hw', .inl ht',
        .inr (.inr ⟨hf, hc, .inr ⟨htmo, ht, hwb, by rw [if_neg hne]; exact hd'⟩⟩)⟩
    | cons e es =>
      rw [State.takeTimer_scripted (by exact ht)] at ha
      change t.answers = (s.writes, ps, es, s.draws) at ha
      obtain ⟨hw', hp', ht', hd'⟩ := State.answers_eq_iff.1 ha
      exact ⟨.inr ⟨hf, hc, _, hp'.symm ▸ hp⟩, .inl hw', .inr ⟨hf, hc, htmo, hwb, e, ht'.symm ▸ ht⟩, .inl hd'⟩

theorem poll_takesOnlyWhatItMay {s t : State} (hf : s.fsm = .receiving) (hc : s.rxCnt < s.rxLen)
    (h : poll s = .next t) : TakesOnlyWhatItMay s t := by
  cases hp : s.polls with
  | nil => exact poll_free_takesOnlyWhatItMay hf hc hp h
  | cons p ps => exact poll_scripted_takesOnlyWhatItMay hf hc hp h

theorem engineStep_takesOnlyWhatItMay {s t : State} (h : engineStep s = .next t) : TakesOnlyWhatItMay s t := by
  rcases engineStep_cases h with
    ⟨_, rfl⟩ | ⟨_, _, rfl⟩ | ⟨hf, hw, hs⟩ | ⟨hf, hc, hp⟩ | ⟨_, _, hv⟩ | ⟨_, hr⟩ | ⟨_, rfl⟩
  · exact takesOnlyWhatItMay_of_answers_eq rfl
  · exact takesOnlyWhatItMay_of_answers_eq rfl
  · exact send_takesOnlyWhatItMay hf hw hs
  · exact poll_takesOnlyWhatItMay hf hc hp
  · exact takesOnlyWhatItMay_of_answers_eq (validate_answers hv)
  · exact takesOnlyWhatItMay_of_answers_eq (reportComplete_answers hr)
  · exact takesOnlyWhatItMay_of_answers_eq rfl

/-- Settles O53: the caller's events take no answer, and of the engine's own steps only SEND and POLL do. -/
theorem engineReadsOnlyWhatItMay : Obligations.EngineReadsOnlyWhatItMay := by
  intro s t h
  change TakesOnlyWhatItMay s t
  rcases step_cases h with
    ⟨_, he⟩ | ⟨rest, _, he⟩ | ⟨rest, _, hr⟩ | ⟨w, rest, _, hw⟩ | ⟨w, rest, _, _, hw⟩ | ⟨w, rest, _, _, he⟩
  · exact engineStep_takesOnlyWhatItMay he
  · exact (engineStep_takesOnlyWhatItMay he).of_setPort
  · exact (takesOnlyWhatItMay_of_answers_eq (applyReset_answers hr)).of_setPort
  · exact (takesOnlyWhatItMay_of_answers_eq (runWord_answers hw)).of_setPort
  · exact (takesOnlyWhatItMay_of_answers_eq (runWord_answers hw)).of_setPort
  · exact engineStep_takesOnlyWhatItMay he

/-! ### A write that never returns (R135, R226) -/

/-- The write is entered: no byte is taken, and the engine's record stays. -/
theorem send_never {s : State} {b : Byte} {ws : List WriteAnswer} (hb : s.txByte? = some b)
    (hw : s.writes = .never :: ws) : send s = .next { s with writes := ws, writeStuck := true } := by
  simp only [send, hb, State.takeWrite_scripted hw, State.holdWrite]

/-- Under a caller that waits, no step changes anything. -/
theorem run_stuck_heldBack {s : State} (hf : s.fsm = .sending) (hw : s.writeStuck = true) (hp : HeldBack s.port)
    (n : Nat) : run n s = .next s := by
  have hstep : step s = .next s := (step_heldBack hp (by simp [hf])).trans (engineStep_stuck hf hw)
  induction n with
  | zero => exact run_zero s
  | succ n ih => rw [run_succ n hstep, ih]

/-- Until a reset, a step changes nothing but the caller's events and `busy_fault`. -/
theorem step_stuck {s t : State} (hf : s.fsm = .sending) (hw : s.writeStuck = true) (hr : .reset ∉ s.port)
    (h : step s = .next t) : t = { s with port := t.port, busyFault := t.busyFault } := by
  rcases step_cases h with
    ⟨_, he⟩ | ⟨rest, _, he⟩ | ⟨rest, hp, _⟩ | ⟨w, rest, _, hrun⟩ | ⟨w, rest, _, hidle, _⟩ | ⟨w, rest, _, _, he⟩
  · rw [engineStep_stuck hf hw] at he; cases he; rfl
  · rw [engineStep_stuck (s := s.setPort rest) hf hw] at he; cases he; rfl
  · exact absurd (hp ▸ List.mem_cons_self) hr
  · obtain ⟨op, ha, _⟩ := runWord_cases hrun
    rw [accept_busy (by simp [hf])] at ha; cases ha; rfl
  · exact absurd (hf.symm.trans hidle) nofun
  · rw [engineStep_stuck hf hw] at he; cases he; rfl

theorem run_stuck {n : Nat} {s t : State} (hf : s.fsm = .sending) (hw : s.writeStuck = true) (hr : .reset ∉ s.port)
    (h : run n s = .next t) : t = { s with port := t.port, busyFault := t.busyFault } := by
  induction n generalizing s with
  | zero => cases h; rfl
  | succ n ih =>
    simp only [run] at h
    split at h
    · next u hu =>
      have hru := step_reset_not_mem_port hu hr
      have eu := step_stuck hf hw hr hu
      rw [eu] at h hru
      exact ih (s := { s with port := u.port, busyFault := u.busyFault }) hf hw hru h
    · cases h
    · cases h

/-- A run a claim may speak of ends with `busy_fault` false, so it began with it false and met no offer. -/
theorem claimedRun_stuck {n : Nat} {s t : State} (hf : s.fsm = .sending) (hw : s.writeStuck = true)
    (hr : .reset ∉ s.port) (h : claimedRun n s = .next t) : t = { s with port := t.port } := by
  obtain ⟨hrun, hclear⟩ := claimedRun_eq_next.1 h
  have hbusy : s.busyFault = t.busyFault := by
    cases hs : s.busyFault with
    | false => exact hclear.symm
    | true => exact (run_keeps_busyFault hrun hr hs).symm
  calc t = { s with port := t.port, busyFault := t.busyFault } := run_stuck hf hw hr hrun
    _ = { s with port := t.port } := by rw [← hbusy]

/-- Settles O60: the step that enters the hang, the step that stays in it, and runs by induction on their length. -/
theorem hungWriteHoldsSending : Obligations.HungWriteHoldsSending := by
  intro s b ws hf
  refine ⟨fun hw hi hb hn => ?enters, fun hw => ⟨engineStep_stuck hf hw, fun hp n => ?waits, fun hr n t h => ?runs⟩⟩
  case enters => rw [engineStep_sending hf hw, send_never (State.txByte?_eq_some.2 ⟨hi, hb⟩) hn]
  case waits => exact claimedRun_of_run (run_stuck_heldBack hf hw hp n)
  case runs => exact claimedRun_stuck hf hw hr h

end Sys2Proof.Machine
end

section
/-! PROOFS of family `30_encoding.md`: the command word (O7 to O10), its textual form (O12), the frames (O24, O25), the
measurement decoder (O26), the ACCEPT step of each command (O31 to O35), and a caller that keeps its duties (O55). -/

namespace Sys2Proof.Machine

-- The check compiles the whole text within a fixed memory limit, near which the files before this one end: the proofs
-- here are elaborated one after another, which takes less memory than many at once.
set_option Elab.async false

open Sys2Proof.Laws.CommandFields (fields)

/-! ### Eight words of the command port -/

/-- Settles O7, by evaluation of the eight words. -/
theorem writtenOutWordsDecode : Obligations.WrittenOutWordsDecode := by
  unfold Obligations.WrittenOutWordsDecode
  decide +kernel

/-! ### The command word and its fields (R60 to R63) -/

/-- A word is its three fields put together: no bit of it is outside them. -/
theorem commandWord_fields (w : CommandWord) : commandWord (tmoField w) (opField w) (argField w) = w := by
  refine BitVec.eq_of_getLsbD_eq fun i hi => ?_
  rcases lt_trichotomy i 19 with h | rfl | h
  · rcases lt_or_ge i 16 with h16 | h16
    · simp [commandWord, argField, hi, h, h16]
    · have hop : i - 16 < 3 := by omega
      have harg : (argField w).getLsbD i = false := BitVec.getLsbD_of_ge _ _ h16
      simp [commandWord, opField, hi, h, h16.not_gt, hop, Nat.add_sub_of_le h16, harg]
  · simp [commandWord, tmoField]
  · omega

/-- Bit `i` of the operation code stands in bit `16 + i` of the word (R60). -/
theorem getLsbD_commandWord_op (tmo : Bool) (op : BitVec 3) (arg : Half) {i : Nat} (hi : i < 3) :
    (commandWord tmo op arg).getLsbD (16 + i) = op.getLsbD i := by
  have h := congrArg (·.getLsbD i) (opField_commandWord tmo op arg)
  simpa [opField, hi] using h

/-- The word of an instruction is its fields put together. -/
theorem encode_eq_map_fields (i : Instr) : encode i = (fields i).map fun f => commandWord f.1 f.2.1 f.2.2 := by
  cases i <;> rfl

/-- Bits 16, 17 and 18 are all of the operation code (R60). -/
theorem opField_eq_of_getLsbD {w : CommandWord} {op : BitVec 3} (h16 : w.getLsbD 16 = op.getLsbD 0)
    (h17 : w.getLsbD 17 = op.getLsbD 1) (h18 : w.getLsbD 18 = op.getLsbD 2) : opField w = op := by
  refine BitVec.eq_of_getLsbD_eq fun i hi => ?_
  simp only [opField, BitVec.getLsbD_extractLsb', hi, decide_true, Bool.true_and]
  interval_cases i
  · exact h16
  · exact h17
  · exact h18

/-- The fields of what a word decodes to are the word's. -/
theorem fields_decodeCommand (w : CommandWord) :
    fields (decodeCommand w) = some (tmoField w, opField w, argField w) := by
  unfold decodeCommand
  split <;> next h18 h17 h16 =>
    simp only [fields, Option.some.injEq, Prod.mk.injEq, true_and, and_true]
    exact (opField_eq_of_getLsbD h16 h17 h18).symm

theorem decodeCommand_commandWord {i : Instr} {tmo : Bool} {op : BitVec 3} {arg : Half}
    (h : fields i = some (tmo, op, arg)) : decodeCommand (commandWord tmo op arg) = i := by
  have h16 : (commandWord tmo op arg).getLsbD 16 = op.getLsbD 0 :=
    getLsbD_commandWord_op tmo op arg (by decide : 0 < 3)
  have h17 : (commandWord tmo op arg).getLsbD 17 = op.getLsbD 1 :=
    getLsbD_commandWord_op tmo op arg (by decide : 1 < 3)
  have h18 : (commandWord tmo op arg).getLsbD 18 = op.getLsbD 2 :=
    getLsbD_commandWord_op tmo op arg (by decide : 2 < 3)
  unfold decodeCommand
  rw [h16, h17, h18, tmoField_commandWord, argField_commandWord]
  cases i <;> cases h <;> rfl

/-- Settles O8: an encoded word is the instruction's fields put together, and each is read back from its place. -/
theorem decodeEncodeAgree : Obligations.DecodeEncodeAgree := by
  intro i w h
  rw [encode_eq_map_fields, Option.map_eq_some_iff] at h
  obtain ⟨⟨tmo, op, arg⟩, hf, rfl⟩ := h
  exact decodeCommand_commandWord hf

/-- Settles O9: decoding keeps the three fields, and they are all of the word. -/
theorem encodeDecodeAgree : Obligations.EncodeDecodeAgree := by
  intro w
  rw [encode_eq_map_fields, fields_decodeCommand, Option.map_some, commandWord_fields]

/-! ### Reserved codes (R63) -/

theorem exec_of_reserved {i : Instr} {tmo : Bool} {op : BitVec 3} {arg : Half} (s : State)
    (h : fields i = some (tmo, op, arg)) (hop : 5 ≤ op.toNat) : exec i s = .refused (.reservedOp op) := by
  cases i <;> cases h
  case reserved5 | reserved6 | reserved7 => rfl
  all_goals exact absurd hop (by decide)

/-- Settles O10: the word on the port decodes to the instruction that holds its code. -/
theorem reservedCodesRefused : Obligations.ReservedCodesRefused := by
  intro s tmo arg _
  refine ⟨rfl, rfl, rfl, fun w rest hp hop => ?onPort⟩
  case onPort =>
    rw [step_of_offer hp]
    exact exec_of_reserved _ (fields_decodeCommand w) hop

/-! ### The textual form of a command (R77) -/

/-- The first word of a command's line, the mnemonic with its timeout mark: what stands before a space. -/
def commandHead (op : Op) (tmo : Bool) : List Char := (sourceLine op tmo []).takeWhile (· ≠ ' ')

theorem sourceLine_eq (op : Op) (tmo : Bool) (operand : List Char) :
    sourceLine op tmo operand =
      if takesOperand op then commandHead op tmo ++ ' ' :: operand else commandHead op tmo := by
  cases op <;> cases tmo <;> rfl

theorem commandHead_ne_nil (op : Op) (tmo : Bool) : commandHead op tmo ≠ [] := by
  cases op <;> cases tmo <;> decide

theorem space_notMem_commandHead (op : Op) (tmo : Bool) : ' ' ∉ commandHead op tmo := by
  cases op <;> cases tmo <;> decide

theorem headToken?_commandHead (op : Op) (tmo : Bool) : headToken? (commandHead op tmo) = some (op, tmo) := by
  cases op <;> cases tmo <;> decide

/-- What follows the mark of an operand: leading zeros and the digits. -/
def Spelling.numeral (sp : Spelling) (zeros : Nat) (v : Half) : List Char :=
  List.replicate zeros '0' ++ sp.digits 5 v.toNat

theorem Spelling.operand_eq (sp : Spelling) (zeros : Nat) (v : Half) :
    sp.operand zeros v = sp.mark ++ sp.numeral zeros v := by
  simp [Spelling.operand, Spelling.numeral]

theorem Spelling.numeral_ne_nil (sp : Spelling) (zeros : Nat) (v : Half) : sp.numeral zeros v ≠ [] := by
  simp [Spelling.numeral, sp.digits_ne_nil]

theorem Spelling.mem_numeral (sp : Spelling) {zeros : Nat} {v : Half} {c : Char} (h : c ∈ sp.numeral zeros v) :
    c ≠ ' ' ∧ c ≠ 'x' := by
  rcases List.mem_append.1 h with h | h
  · rw [List.eq_of_mem_replicate h]; decide
  · exact sp.mem_digits h

/-- Five digits are enough for 16 bits in either base. -/
theorem Spelling.lt_base_pow (sp : Spelling) (v : Half) : v.toNat < sp.base ^ 5 :=
  v.isLt.trans_le (by cases sp <;> decide)

theorem Spelling.digits?_numeral (sp : Spelling) (zeros : Nat) (v : Half) :
    digits? sp.base 0 (sp.numeral zeros v) = some v.toNat := by
  rw [Spelling.numeral, digits?_zeros _ _ sp.base_pos, sp.digits?_digits _ _ (sp.lt_base_pow v)]

theorem Spelling.space_notMem_operand (sp : Spelling) (zeros : Nat) (v : Half) : ' ' ∉ sp.operand zeros v := by
  rw [sp.operand_eq, List.mem_append, not_or]
  exact ⟨by cases sp <;> decide, fun h => (sp.mem_numeral h).1 rfl⟩

theorem Spelling.operand_ne_nil (sp : Spelling) (zeros : Nat) (v : Half) : sp.operand zeros v ≠ [] := by
  simp [sp.operand_eq, sp.numeral_ne_nil]

/-- An operand is read as its value in each spelling. -/
theorem operandToken?_operand (sp : Spelling) (zeros : Nat) (v : Half) :
    operandToken? (sp.operand zeros v) = some v := by
  have hne := sp.numeral_ne_nil zeros v
  have hx : 'x' ∉ sp.numeral zeros v := fun h => (sp.mem_numeral h).2 rfl
  have hd := sp.digits?_numeral zeros v
  have hv : some (BitVec.ofNat 16 v.toNat) = some v := by simp
  rw [sp.operand_eq]
  cases sp with
  | decimal => exact (operandToken?_decimal hne hx hd v.isLt).trans hv
  | hexLower => exact (operandToken?_hex hne hd v.isLt).trans hv
  | hexUpper => exact (operandToken?_hex hne hd v.isLt).trans hv

/-- Settles O12: the line's words are its head and its operand, and each is read as what it spells. -/
theorem assemblerReadsEveryCommand : Obligations.AssemblerReadsEveryCommand := by
  intro op tmo v sp zeros
  have hhead := headToken?_commandHead op tmo
  have hne := commandHead_ne_nil op tmo
  have hs := space_notMem_commandHead op tmo
  rw [sourceLine_eq]
  cases ht : takesOperand op with
  | false =>
    have htok := tokens_word hne hs
    simp [assemble?, htok, hhead, ht]
  | true =>
    have htok : tokens (commandHead op tmo ++ ' ' :: sp.operand zeros v) = [commandHead op tmo, sp.operand zeros v] := by
      rw [tokens_append hne hs, tokens_word (sp.operand_ne_nil zeros v) (sp.space_notMem_operand zeros v)]
    simp [assemble?, htok, hhead, ht, operandToken?_operand]

/-! ### Frames (R64, R96, R100 to R104) -/

/-- The trailer's two bytes hold the whole checksum (R46). -/
theorem le16_lowByte_highByte (v : Half) : le16 (lowByte v) (highByte v) = v := by
  apply BitVec.eq_of_toNat_eq
  have hv := v.isLt
  simp only [toNat_le16, lowByte, highByte, BitVec.extractLsb'_toNat, Nat.shiftRight_eq_div_pow]
  omega

/-- CRC_VERIFY compares the checksum of all but the last two bytes with those two (R94). -/
theorem crcVerify_append_pair (cfg : Cfg) (f : List Byte) (lo hi : Byte) :
    crcVerify cfg (f ++ [lo, hi]) = (crc16 cfg f == le16 lo hi) := by
  simp [crcVerify]

/-- An appended checksum verifies (R96). -/
theorem crcVerify_crcAppend (cfg : Cfg) (s : List Byte) : crcVerify cfg (crcAppend cfg s) = true := by
  simp [crcAppend, leBytes, crcVerify_append_pair, le16_lowByte_highByte]

/-- Where length and checksum are right, the address alone decides, under either check order (R102, R107). -/
theorem frameValidate_of_crcVerify {cfg : Cfg} {r : List Byte} {n : Nat} (a : Byte) (hn : r.length = n)
    (hc : crcVerify cfg r = true) :
    frameValidate cfg r n a = if addrOk cfg r a then .ok else .err .unexpectedResponse := by
  cases ho : cfg.checkOrder <;> cases ha : addrOk cfg r a <;> simp [frameValidate, checksVerdict, hn, hc, ho, ha]

theorem frameEncode_length (cfg : Cfg) (a fc : Byte) (p : List Byte) :
    (frameEncode cfg a fc p).length = p.length + 4 := by
  simp [frameEncode, crcAppend, leBytes]

/-- A frame's first byte is its address (R100, R104). -/
theorem addrOk_frameEncode (cfg : Cfg) (a fc : Byte) (p : List Byte) (sentTo : Byte) :
    addrOk cfg (frameEncode cfg a fc p) sentTo = true ↔ sentTo = cfg.addrGeneral ∨ sentTo = a := by
  simp only [addrOk, frameEncode, crcAppend, List.cons_append, Bool.or_eq_true, beq_iff_eq, eq_comm (a := a)]

/-- Settles O24: an encoded frame has its length and its checksum, so the address check decides. -/
theorem encodedFrameValidates : Obligations.EncodedFrameValidates := by
  intro cfg a fc p sentTo
  rw [frameValidate_of_crcVerify sentTo (frameEncode_length cfg a fc p) (crcVerify_crcAppend cfg _)]
  simp only [addrOk_frameEncode]

theorem lowByte_setWidth (b : Byte) : lowByte (b.setWidth 16) = b := by
  refine BitVec.eq_of_getLsbD_eq fun i hi => ?_
  have hi16 : i < 16 := by omega
  simp [lowByte, hi, hi16]

theorem highByte_setWidth (b : Byte) : highByte (b.setWidth 16) = 0 := by
  refine BitVec.eq_of_getLsbD_eq fun i hi => ?_
  simp [highByte]

/-- SETADDR's value has a zero high byte (R66, R72). -/
theorem beBytes_addrValue (arg : Half) : beBytes (addrValue arg) = [0, lowByte arg] := by
  rw [beBytes, addrValue, highByte_setWidth, lowByte_setWidth]

/-- Settles O25: but for SETADDR's value, the requests are the opcode map's as written. -/
theorem requestsAreTheOpcodeMap : Obligations.RequestsAreTheOpcodeMap := by
  refine ⟨fun arg a => ⟨rfl, rfl, rfl, ?setaddr, rfl⟩, request_length⟩
  case setaddr => rw [request, requestSetaddr, reqWr, beBytes_addrValue]; rfl

/-! ### The measurement decoder (R73, R152) -/

theorem bne_eq_decide_ne (x y : Half) : (x != y) = decide (x ≠ y) := by
  simp only [bne, beq_eq_decide, decide_not]

/-- DECODE_MEAS reads the offsets of R152. -/
theorem decodeMeas?_ofFn (cfg : Cfg) (r : Fin 25 → Byte) :
    decodeMeas? cfg (List.ofFn r) = some {
      v := be16 (r 3) (r 4)
      i := w32 cfg.wordOrder32 (r 5) (r 6) (r 7) (r 8)
      p := w32 cfg.wordOrder32 (r 9) (r 10) (r 11) (r 12)
      e := w32 cfg.wordOrder32 (r 13) (r 14) (r 15) (r 16)
      f := be16 (r 17) (r 18)
      pf := be16 (r 19) (r 20)
      alarm := decide (be16 (r 21) (r 22) ≠ 0) } := by
  rw [← bne_eq_decide_ne]
  rfl

/-- On another length it has no value: the list ends within 25 bytes, or goes on after them. -/
theorem decodeMeas?_eq_none {cfg : Cfg} {r : List Byte} (h : r.length ≠ 25) : decodeMeas? cfg r = none := by
  iterate 25
    obtain _ | ⟨_, r⟩ := r
    · rfl
  obtain _ | ⟨_, r⟩ := r
  · exact absurd rfl h
  · rfl

theorem exec_decodeMeas_of_some {s : State} {r : List Byte} {m : Measurement} (h : decodeMeas? s.cfg r = some m) :
    exec (.decodeMeas r) s = .next { s with fnResult := .meas m } := by
  rw [exec, execDecodeMeas, h]
  rfl

theorem exec_decodeMeas_of_none {s : State} {r : List Byte} (h : decodeMeas? s.cfg r = none) :
    exec (.decodeMeas r) s = .fault .operandLength := by
  rw [exec, execDecodeMeas, h]

/-- Settles O26: 25 bytes decode at their offsets, and no other length has a value. -/
theorem decodeMeasReadsFixedOffsets : Obligations.DecodeMeasReadsFixedOffsets := by
  refine fun s r => ⟨fun h => ?whole, fun h => exec_decodeMeas_of_none (decodeMeas?_eq_none h)⟩
  case whole =>
    obtain ⟨f, rfl⟩ := exists_ofFn_of_length h
    exact exec_decodeMeas_of_some (decodeMeas?_ofFn s.cfg f)

/-! ### ACCEPT in IDLE (R121, R122) -/

/-- An accepted command: its request at the current address, with the lengths of R71. -/
theorem accept_idle_eq_accepted {op : Op} {tmo : Bool} {arg : Half} {s : State} (hi : s.fsm = .idle)
    (ha : argOk s.cfg op arg = true) :
    accept op tmo arg s =
      .next (s.accepted op tmo arg (request s.cfg op arg s.devAddr) (txLenOf op) (rxLenOf op)) := by
  rw [accept_idle_ok hi ha, ← request_length s.cfg op arg s.devAddr]
  cases tmo <;> rfl

/-- Settles O31: READ has no operand check, and its request is R65's. -/
theorem readLoadsItsRequest : Obligations.ReadLoadsItsRequest :=
  fun _ _ _ hi => accept_idle_eq_accepted (op := .read) hi rfl

/-- Settles O32: a legal address passes the operand check and is the value written. -/
theorem setaddrLoadsItsRequest : Obligations.SetaddrLoadsItsRequest := by
  intro s tmo arg hi hmin hmax
  have hlegal : legalAddr s.cfg arg = true := decide_eq_true ⟨hmin, hmax⟩
  calc exec (.setaddr tmo arg) s
      = .next (s.accepted .setaddr tmo arg (reqWr s.cfg s.devAddr s.cfg.regAddress (addrValue arg)) 8 8) :=
        accept_idle_eq_accepted (op := .setaddr) hi hlegal
    _ = _ := by rw [addrValue_eq_of_legal hlegal]; rfl

/-- Settles O33: RSTE has no operand check, and its request is R67's. -/
theorem rsteLoadsItsRequest : Obligations.RsteLoadsItsRequest :=
  fun _ _ _ hi => accept_idle_eq_accepted (op := .rste) hi rfl

/-- Settles O34: SETTHR has no operand check, and its request is R66's. -/
theorem setthrLoadsItsRequest : Obligations.SetthrLoadsItsRequest :=
  fun _ _ _ hi => accept_idle_eq_accepted (op := .setthr) hi rfl

/-- Settles O35: GETTHR has no operand check, and its request is R65's. -/
theorem getthrLoadsItsRequest : Obligations.GetthrLoadsItsRequest :=
  fun _ _ _ hi => accept_idle_eq_accepted (op := .getthr) hi rfl

/-! ### A caller that keeps its duties (R195, R227) -/

/-! #### The engine's own step is never refused -/

theorem send_ne_refused (s : State) (r : Refusal) : send s ≠ .refused r := by
  unfold send
  split
  · nofun
  · split <;> nofun

theorem poll_ne_refused (s : State) (r : Refusal) : poll s ≠ .refused r := by
  unfold poll
  split
  · split <;> nofun
  · split
    · split <;> nofun
    · nofun
  · nofun

theorem validate_ne_refused (s : State) (r : Refusal) : validate s ≠ .refused r := by
  unfold validate
  split
  · nofun
  · split <;> nofun

theorem reportComplete_ne_refused (s : State) (r : Refusal) : reportComplete s ≠ .refused r := by
  unfold reportComplete
  split <;> nofun

theorem engineStep_ne_refused (s : State) (r : Refusal) : engineStep s ≠ .refused r := by
  unfold engineStep
  split
  · nofun
  · split
    · nofun
    · exact send_ne_refused s r
  · split
    · exact poll_ne_refused s r
    · split
      · exact validate_ne_refused s r
      · nofun
  · exact reportComplete_ne_refused s r
  · nofun

/-! #### Each event of a dutiful caller -/

theorem applyReset_ne_refused {s : State} (h : Admitted s.cfg) (r : Refusal) : applyReset s ≠ .refused r := by
  have hok : resetAddrOk s.cfg = true := h
  simp [applyReset, hok]

/-- A dutiful word spells an operation (R61, R63). -/
theorem runWord_ne_refused {w : CommandWord} (h : (CallerEvent.offerIdle w).dutiful = true) (s : State) (r : Refusal) :
    runWord w s ≠ .refused r := by
  have hacc : ∀ op, accept op (tmoField w) (argField w) s ≠ .refused r := fun op => by
    obtain ⟨t, ht⟩ := accept_next op (tmoField w) (argField w) s
    simp [ht]
  unfold runWord decodeCommand
  split
  · exact hacc .read
  · exact hacc .setaddr
  · exact hacc .rste
  · exact hacc .setthr
  · exact hacc .getthr
  all_goals next h18 h17 h16 => rw [CallerEvent.dutiful, h18, h17, h16] at h; cases h

theorem step_ne_refused {s : State} (ha : Admitted s.cfg) (hd : s.Dutiful) (r : Refusal) : step s ≠ .refused r := by
  unfold step interfaceStep
  split
  · exact engineStep_ne_refused s r
  · exact engineStep_ne_refused _ r
  · exact applyReset_ne_refused (by exact ha) r
  next w rest hp => exact absurd (hd (.offer w) (hp ▸ List.mem_cons_self)) nofun
  next w rest hp =>
    have hw : (CallerEvent.offerIdle w).dutiful = true := hd _ (hp ▸ List.mem_cons_self)
    split
    · exact runWord_ne_refused hw _ r
    · exact engineStep_ne_refused s r

theorem step_dutiful {s t : State} (h : step s = .next t) (hd : s.Dutiful) : t.Dutiful := by
  intro e he
  rcases step_port h with hp | ⟨e', hp⟩
  · exact hd e (hp ▸ he)
  · exact hd e (hp ▸ List.mem_cons_of_mem e' he)

/-- A dutiful caller offers nothing outside IDLE, so no step raises `busy_fault` (R188). -/
theorem step_claimable {s t : State} (h : step s = .next t) (hd : s.Dutiful) (hc : s.Claimable) : t.Claimable := by
  refine Bool.eq_false_iff.2 fun hb => ?_
  obtain ⟨_, hset | ⟨_, w, rest, hp⟩⟩ := (step_busyFault h).1 hb
  · exact absurd (hset.symm.trans hc) nofun
  · exact absurd (hd (.offer w) (hp ▸ List.mem_cons_self)) nofun

/-! #### Runs -/

/-- A machine in order that a claim may speak of, with an admitted configuration and a dutiful caller. -/
structure State.Served (s : State) : Prop where
  admitted : Admitted s.cfg
  dutiful : s.Dutiful
  inOrder : s.InOrder
  claimable : s.Claimable

theorem step_served {s : State} (hs : s.Served) : ∃ t, step s = .next t ∧ t.Served := by
  cases h : step s with
  | next t =>
    exact ⟨t, rfl, step_cfg h ▸ hs.admitted, step_dutiful h hs.dutiful, step_inOrder hs.inOrder h,
      step_claimable h hs.dutiful hs.claimable⟩
  | fault r => exact absurd h (orderedMachineNeverFaults s r hs.inOrder)
  | refused r => exact absurd h (step_ne_refused hs.admitted hs.dutiful r)

theorem run_served {s : State} (hs : s.Served) (n : Nat) : ∃ t, run n s = .next t ∧ t.Served := by
  induction n generalizing s with
  | zero => exact ⟨s, run_zero s, hs⟩
  | succ n ih =>
    obtain ⟨u, hu, hus⟩ := step_served hs
    rw [run_succ n hu]
    exact ih hus

/-- Settles O55: the duties are kept by every step, and in order such a step answers next, so runs go on by induction. -/
theorem dutifulCallerIsServed : Obligations.DutifulCallerIsServed := by
  intro s ha hd
  refine ⟨step_ne_refused ha hd, fun t h => ⟨step_cfg h ▸ ha, step_dutiful h hd, step_claimable h hd⟩,
    fun hs hc n => ?runs⟩
  case runs =>
    obtain ⟨t, hrun, ht⟩ := run_served ⟨ha, hd, hs, hc⟩ n
    exact ⟨t, claimedRun_eq_next.2 ⟨hrun, ht.claimable⟩, ht.inOrder, ht.claimable⟩

end Sys2Proof.Machine
end

section
/-! PROOFS of family `40_checksum.md`: the bit loop (O14), its table (O15), what an appended checksum makes of the
register (O16 to O18), and the two functions that compute and check it (O19, O20). The shift commutes with exclusive-or,
so an error in a frame goes through the register on its own, whatever the frame. -/

namespace Sys2Proof.Machine

/-! ### The trailer (R94, R96) -/

/-- A sequence that verifies ends in the checksum of what stands before its last two bytes. -/
theorem exists_append_pair_of_crcVerify {cfg : Cfg} {f : List Byte} (h : crcVerify cfg f = true) :
    ∃ g lo hi, f = g ++ [lo, hi] ∧ crc16 cfg g = le16 lo hi := by
  unfold crcVerify at h
  split at h
  · cases h
  · split at h
    next lo hi hdrop =>
      exact ⟨f.take (f.length - 2), lo, hi, by rw [← hdrop, List.take_append_drop], beq_iff_eq.1 h⟩
    · cases h

/-- Settles O16, by the law the frames use. -/
theorem appendedChecksumVerifies : Obligations.AppendedChecksumVerifies := crcVerify_crcAppend

/-! ### The bit loop (R91) -/

theorem crcShifts_eq_iterate (poly : Half) (n : Nat) : crcShifts poly n = (crcShift poly)^[n] := by
  induction n with
  | zero => rfl
  | succ n ih => rw [Function.iterate_succ, ← ih]; rfl

theorem crc16_append (cfg : Cfg) (s u : List Byte) :
    crc16 cfg (s ++ u) = u.foldl (crcByte cfg.crcPoly) (crc16 cfg s) := List.foldl_append

/-- The shift of R91 on numbers. -/
def crcShiftNat (poly c : Nat) : Nat := if c % 2 = 1 then (c / 2) ^^^ poly else c / 2

theorem toNat_crcShift (poly c : Half) : (crcShift poly c).toNat = crcShiftNat poly.toNat c.toNat := by
  have hbit : c.getLsbD 0 = decide (c.toNat % 2 = 1) := Nat.testBit_zero c.toNat
  rw [crcShift, crcShiftNat, hbit]
  by_cases h : c.toNat % 2 = 1
  · simp only [h, decide_true, if_true, BitVec.toNat_xor, BitVec.toNat_ushiftRight, Nat.shiftRight_one]
  · simp only [h, decide_false, Bool.false_eq_true, if_false, BitVec.toNat_ushiftRight, Nat.shiftRight_one]

theorem toNat_crcShifts (poly : Half) (n : Nat) (c : Half) :
    (crcShifts poly n c).toNat = (crcShiftNat poly.toNat)^[n] c.toNat := by
  have hsemi : Function.Semiconj BitVec.toNat (crcShift poly) (crcShiftNat poly.toNat) := toNat_crcShift poly
  rw [crcShifts_eq_iterate]
  exact hsemi.iterate_right n c

/-- Settles O14: a further byte is one more turn of the fold, and its shifts are those of numbers. -/
theorem checksumFollowsBitLoop : Obligations.ChecksumFollowsBitLoop := by
  refine ⟨rfl, rfl, fun cfg => ⟨rfl, fun s b => ?byte⟩⟩
  case byte =>
    have hb : (b.setWidth 16).toNat = b.toNat := BitVec.toNat_setWidth_of_le (by decide)
    calc (crc16 cfg (s ++ [b])).toNat
        = (crcShifts cfg.crcPoly 8 (crc16 cfg s ^^^ b.setWidth 16)).toNat := by rw [crc16_append]; rfl
      _ = (crcShiftNat cfg.crcPoly.toNat)^[8] ((crc16 cfg s).toNat ^^^ b.toNat) := by
        rw [toNat_crcShifts, BitVec.toNat_xor, hb]

/-! ### The shift commutes with exclusive-or -/

theorem getLsbD_crcShift (poly c : Half) (i : Nat) :
    (crcShift poly c).getLsbD i = (c.getLsbD (i + 1) ^^ (c.getLsbD 0 && poly.getLsbD i)) := by
  rw [crcShift, Nat.add_comm i 1, ← BitVec.getLsbD_ushiftRight]
  cases c.getLsbD 0 with
  | false => rw [if_neg Bool.false_ne_true, Bool.false_and, Bool.xor_false]
  | true => rw [if_pos rfl, BitVec.getLsbD_xor, Bool.true_and]

theorem crcShift_xor (poly x y : Half) : crcShift poly (x ^^^ y) = crcShift poly x ^^^ crcShift poly y := by
  refine BitVec.eq_of_getLsbD_eq fun i _ => ?_
  simp only [getLsbD_crcShift, BitVec.getLsbD_xor]
  rw [Bool.and_xor_distrib_right, Bool.xor_assoc, Bool.xor_assoc, Bool.xor_left_comm (y.getLsbD (i + 1))]

theorem crcShifts_xor (poly : Half) (n : Nat) (x y : Half) :
    crcShifts poly n (x ^^^ y) = crcShifts poly n x ^^^ crcShifts poly n y := by
  induction n generalizing x y with
  | zero => rfl
  | succ n ih => rw [crcShifts, crcShift_xor, ih]; rfl

theorem crcShifts_add (poly : Half) (m n : Nat) (c : Half) :
    crcShifts poly (m + n) c = crcShifts poly n (crcShifts poly m c) := by
  simp only [crcShifts_eq_iterate, Nat.add_comm m n, Function.iterate_add_apply]

theorem crcShifts_zero_right (poly : Half) (n : Nat) : crcShifts poly n 0#16 = 0#16 := by
  have h := crcShifts_xor poly n 0#16 0#16
  rwa [BitVec.xor_self, BitVec.xor_self] at h

/-- Where only zero bits are shifted out, the polynomial never comes in. -/
theorem crcShifts_of_low_bits_zero (poly : Half) {n : Nat} {c : Half} (h : ∀ i < n, c.getLsbD i = false) :
    crcShifts poly n c = c >>> n := by
  induction n generalizing c with
  | zero => rfl
  | succ n ih =>
    have hshift : crcShift poly c = c >>> 1 := by rw [crcShift, h 0 n.succ_pos]; rfl
    have hlow : ∀ i < n, (c >>> 1).getLsbD i = false := fun i hi => by
      rw [BitVec.getLsbD_ushiftRight, Nat.add_comm]
      exact h (i + 1) (Nat.succ_lt_succ hi)
    rw [crcShifts, hshift, ih hlow, ← BitVec.shiftRight_add, Nat.add_comm]

/-- An error `d` in the register goes through further bytes on its own, whatever they are. -/
theorem foldl_crcByte_xor (poly : Half) (s : List Byte) (c d : Half) :
    s.foldl (crcByte poly) (c ^^^ d) = s.foldl (crcByte poly) c ^^^ crcShifts poly (8 * s.length) d := by
  induction s generalizing c d with
  | nil => rfl
  | cons b s ih =>
    have hbyte : crcByte poly (c ^^^ d) b = crcByte poly c b ^^^ crcShifts poly 8 d := by
      rw [crcByte, crcByte, ← crcShifts_xor]
      ac_rfl
    rw [List.foldl_cons, hbyte, ih, ← crcShifts_add, List.foldl_cons, List.length_cons, Nat.mul_succ, Nat.add_comm]

/-! ### The table (R92) -/

theorem lowByte_xor (x y : Half) : lowByte (x ^^^ y) = lowByte x ^^^ lowByte y := by
  rw [lowByte, BitVec.extractLsb'_xor, lowByte, lowByte]

/-- A byte taken into the register leaves the high byte as it is. -/
theorem ushiftRight_xor_setWidth (c : Half) (b : Byte) : (c ^^^ b.setWidth 16) >>> 8 = c >>> 8 := by
  have hb : b.setWidth 16 >>> 8 = 0#16 := by
    apply BitVec.eq_of_toNat_eq
    rw [BitVec.toNat_ushiftRight, BitVec.toNat_setWidth_of_le (by decide), Nat.shiftRight_eq_div_pow]
    exact Nat.div_eq_of_lt b.isLt
  rw [BitVec.ushiftRight_xor_distrib, hb, BitVec.xor_zero]

theorem crcShifts_of_lowByte_zero (poly : Half) {c : Half} (h : lowByte c = 0#8) : crcShifts poly 8 c = c >>> 8 := by
  refine crcShifts_of_low_bits_zero poly fun i hi => ?_
  have hbit : (lowByte c).getLsbD i = false := by rw [h, BitVec.getLsbD_zero]
  simpa only [lowByte, BitVec.getLsbD_extractLsb', hi, decide_true, Bool.true_and, Nat.zero_add] using hbit

/-- The table's update is the bit loop's: the low byte goes through the shifts on its own, the high byte moves down. -/
theorem crcByteByTable_eq_crcByte (poly : Half) : crcByteByTable poly = crcByte poly := by
  funext c b
  generalize hv : c ^^^ b.setWidth 16 = v
  have hhigh : crcShifts poly 8 (v ^^^ (lowByte v).setWidth 16) = c >>> 8 := by
    rw [crcShifts_of_lowByte_zero poly (by rw [lowByte_xor, lowByte_setWidth, BitVec.xor_self]),
      ushiftRight_xor_setWidth, ← hv, ushiftRight_xor_setWidth]
  calc crcByteByTable poly c b
      = crcShifts poly 8 (v ^^^ (lowByte v).setWidth 16) ^^^ crcShifts poly 8 ((lowByte v).setWidth 16) := by
        rw [hhigh, crcByteByTable, crcTable, hv]
    _ = crcByte poly c b := by rw [← crcShifts_xor, BitVec.xor_assoc, BitVec.xor_self, BitVec.xor_zero, crcByte, hv]

theorem crc16ByTable_eq_crc16 (cfg : Cfg) (s : List Byte) : crc16ByTable cfg s = crc16 cfg s := by
  rw [crc16ByTable, crcByteByTable_eq_crcByte, crc16]

/-- Settles O15: each turn of the table's fold is a turn of the bit loop's. -/
theorem tableChecksumEqualsBitLoop : Obligations.TableChecksumEqualsBitLoop := by
  refine ⟨fun poly k => ?entry, fun cfg s => ⟨fun b => ?byte, crc16ByTable_eq_crc16 cfg s⟩⟩
  case entry => simp [crcByte, crcTable]
  case byte => rw [crc16ByTable, List.foldl_append]; rfl

/-! ### The residue (R98) -/

theorem lowByte_le16 (lo hi : Byte) : lowByte (le16 lo hi) = lo := by
  apply BitVec.eq_of_toNat_eq
  have hlo := lo.isLt
  rw [lowByte, BitVec.extractLsb'_toNat, toNat_le16, Nat.shiftRight_zero]
  omega

theorem ushiftRight_le16 (lo hi : Byte) : le16 lo hi >>> 8 = hi.setWidth 16 := by
  apply BitVec.eq_of_toNat_eq
  have hlo := lo.isLt
  rw [BitVec.toNat_ushiftRight, toNat_le16, BitVec.toNat_setWidth_of_le (by decide), Nat.shiftRight_eq_div_pow]
  omega

/-- The trailer's bytes taken into a register that holds them leave zero: each meets itself. -/
theorem crcByte_crcByte_le16 (poly : Half) (lo hi : Byte) : crcByte poly (crcByte poly (le16 lo hi) lo) hi = 0#16 := by
  have hlow : lowByte (le16 lo hi ^^^ lo.setWidth 16) = 0#8 := by
    rw [lowByte_xor, lowByte_le16, lowByte_setWidth, BitVec.xor_self]
  have hlo : crcByte poly (le16 lo hi) lo = hi.setWidth 16 := by
    rw [crcByte, crcShifts_of_lowByte_zero poly hlow, ushiftRight_xor_setWidth, ushiftRight_le16]
  rw [hlo, crcByte, BitVec.xor_self, crcShifts_zero_right]

theorem crc16_eq_zero_of_crcVerify {cfg : Cfg} {f : List Byte} (h : crcVerify cfg f = true) : crc16 cfg f = 0#16 := by
  obtain ⟨g, lo, hi, rfl, hg⟩ := exists_append_pair_of_crcVerify h
  rw [crc16_append, hg]
  exact crcByte_crcByte_le16 cfg.crcPoly lo hi

/-- Settles O18: a frame with its trailer verifies. -/
theorem checksumResidueIsZero : Obligations.ChecksumResidueIsZero :=
  fun cfg s => crc16_eq_zero_of_crcVerify (crcVerify_crcAppend cfg s)

/-! ### Single-bit errors (R97) -/

/-- With the top bit in the polynomial, the bit shifted out comes back as the top bit: only zero is shifted to zero. -/
theorem eq_zero_of_crcShift_eq_zero {poly c : Half} (hp : poly.getLsbD 15 = true)
    (h : crcShift poly c = 0#16) : c = 0#16 := by
  have hbits (i : Nat) : (c.getLsbD (i + 1) ^^ (c.getLsbD 0 && poly.getLsbD i)) = false := by
    rw [← getLsbD_crcShift, h, BitVec.getLsbD_zero]
  have hlow : c.getLsbD 0 = false := by
    have hover : c.getLsbD 16 = false := BitVec.getLsbD_of_ge c 16 le_rfl
    simpa only [hover, hp, Bool.false_xor, Bool.and_true] using hbits 15
  refine BitVec.eq_of_getLsbD_eq fun i _ => ?_
  cases i with
  | zero => exact hlow
  | succ i => simpa only [hlow, Bool.false_and, Bool.xor_false, BitVec.getLsbD_zero] using hbits i

theorem eq_zero_of_crcShifts_eq_zero {poly c : Half} (hp : poly.getLsbD 15 = true) {n : Nat}
    (h : crcShifts poly n c = 0#16) : c = 0#16 := by
  induction n generalizing c with
  | zero => exact h
  | succ n ih => exact eq_zero_of_crcShift_eq_zero hp (ih h)

/-- An error `e` in byte `i` is an error in the register before that byte, and goes through the rest of the frame. -/
theorem foldl_crcByte_modify_xor (poly : Half) (e : Byte) {s : List Byte} {i : Nat} (hi : i < s.length) (c : Half) :
    (s.modify i (· ^^^ e)).foldl (crcByte poly) c =
      s.foldl (crcByte poly) c ^^^ crcShifts poly (8 * (s.length - i)) (e.setWidth 16) := by
  induction s generalizing i c with
  | nil => cases hi
  | cons b s ih =>
    cases i with
    | zero =>
      have hhead : crcByte poly c (b ^^^ e) = crcByte poly (c ^^^ e.setWidth 16) b := by
        rw [crcByte, crcByte, BitVec.setWidth_xor]
        ac_rfl
      rw [List.modify_zero_cons, List.foldl_cons, hhead, ← List.foldl_cons, foldl_crcByte_xor, Nat.sub_zero]
    | succ i =>
      rw [List.modify_succ_cons, List.foldl_cons, List.foldl_cons, ih (Nat.lt_of_succ_lt_succ hi), List.length_cons,
        Nat.succ_sub_succ]

/-- Settles O17: what verifies has residue zero, and with this polynomial one flipped bit leaves the residue nonzero. -/
theorem singleBitErrorsDetected : Obligations.SingleBitErrorsDetected := by
  intro cfg s k hpoly hk
  refine Bool.eq_false_iff.2 fun hv => ?_
  have hlen : (crcAppend cfg s).length = s.length + 2 := by simp [crcAppend, leBytes]
  have hi : k / 8 < (crcAppend cfg s).length := hlen ▸ Nat.div_lt_of_lt_mul hk
  have hres : crc16 cfg (flipBit k (crcAppend cfg s)) = 0#16 := crc16_eq_zero_of_crcVerify hv
  have hframe : (crcAppend cfg s).foldl (crcByte cfg.crcPoly) cfg.crcSeed = 0#16 := checksumResidueIsZero cfg s
  rw [crc16, flipBit, foldl_crcByte_modify_xor _ _ hi, hframe, BitVec.zero_xor] at hres
  have hbit : (BitVec.twoPow 8 (k % 8)).setWidth 16 = 0#16 :=
    eq_zero_of_crcShifts_eq_zero (by rw [hpoly]; rfl) hres
  have hflip : BitVec.twoPow 8 (k % 8) = 0#8 := by
    rw [← lowByte_setWidth (BitVec.twoPow 8 (k % 8)), hbit]
    rfl
  have hpow : 2 ^ (k % 8) = 0 := by
    rw [← BitVec.toNat_twoPow_of_lt (Nat.mod_lt k (by decide)), hflip, BitVec.toNat_zero]
  exact (Nat.two_pow_pos (k % 8)).ne' hpow

/-! ### CRC_COMPUTE and CRC_VERIFY (R93, R94) -/

theorem exec_crcCompute (b : List Byte) (s : State) :
    exec (.crcCompute b) s = .next { s with fnResult := .crc (crc16 s.cfg b) } := rfl

theorem exec_crcVerify (f : List Byte) (s : State) :
    exec (.crcVerify f) s = .next { s with fnResult := .verified (crcVerify s.cfg f) } := rfl

theorem crcVerify_of_length_lt (cfg : Cfg) {f : List Byte} (h : f.length < 2) : crcVerify cfg f = false := by
  rw [crcVerify, if_pos h]

/-- Settles O20: the function's value is the one field written, and its comparison is that of R94. -/
theorem crcVerifyComparesTrailer : Obligations.CrcVerifyComparesTrailer := by
  refine fun s f lo hi => ⟨fun hlen => ?short, ?trailer⟩
  case short => rw [exec_crcVerify, crcVerify_of_length_lt s.cfg hlen]
  case trailer => rw [exec_crcVerify, crcVerify_append_pair, beq_eq_decide]

-- Memory: this one waits for the proofs before it, so that none of them is still being elaborated when the text ends.
set_option Elab.async false in
/-- Settles O19: the function's value is the one field written. -/
theorem crcComputeReturnsChecksum : Obligations.CrcComputeReturnsChecksum :=
  fun s b => ⟨exec_crcCompute b s, exec_crcCompute [] s⟩

end Sys2Proof.Machine
end

section
/-! PROOFS of family `43_operations.md`: the payload decoder (O27 to O29), the quantities its values stand for (O30), the
legal addresses (O36), and the commit of each operation (O45 to O48), on which alone its REPORT step depends. The check
compiles the whole text within a fixed memory limit, which it nearly fills: so no proof here is by `omega`, and none has
`simp` unfold a definition, which would make its equations. -/

namespace Sys2Proof.Machine

/-! ### The payload decoder and its values (R48, R150 to R154) -/

/-- `be16` is `le16` with its bytes swapped. -/
theorem be16_highByte_lowByte (v : Half) : be16 (highByte v) (lowByte v) = v := le16_lowByte_highByte v

theorem joinWords_extractLsb' (x : Long) : joinWords (x.extractLsb' 16 16) (x.extractLsb' 0 16) = x := by
  apply BitVec.eq_of_toNat_eq
  have hhigh : x.toNat / 2 ^ 16 < 2 ^ 16 := Nat.div_lt_of_lt_mul x.isLt
  rw [toNat_joinWords, BitVec.extractLsb'_toNat, BitVec.extractLsb'_toNat, Nat.shiftRight_zero,
    Nat.shiftRight_eq_div_pow, Nat.mod_eq_of_lt hhigh]
  exact Nat.div_add_mod x.toNat 65536

/-- The layout of a 32-bit value is four bytes that `W32` reads back, under either word order (R48). -/
theorem exists_w32Bytes_eq (order : WordOrder) (x : Long) :
    ∃ c0 c1 c2 c3, w32Bytes order x = [c0, c1, c2, c3] ∧ w32 order c0 c1 c2 c3 = x := by
  have hwords := (congrArg₂ joinWords (be16_highByte_lowByte (x.extractLsb' 16 16))
    (be16_highByte_lowByte (x.extractLsb' 0 16))).trans (joinWords_extractLsb' x)
  cases order
  · exact ⟨_, _, _, _, rfl, hwords⟩
  · exact ⟨_, _, _, _, rfl, hwords⟩

/-- Settles O27: in the frame each value's bytes stand where DECODE_MEAS reads them, and they give the value back. -/
theorem measurementPayloadRoundTrip : Obligations.MeasurementPayloadRoundTrip := by
  intro cfg a fc bc m alarmWord
  obtain ⟨i0, i1, i2, i3, hlayI, hreadI⟩ := exists_w32Bytes_eq cfg.wordOrder32 m.i
  obtain ⟨p0, p1, p2, p3, hlayP, hreadP⟩ := exists_w32Bytes_eq cfg.wordOrder32 m.p
  obtain ⟨e0, e1, e2, e3, hlayE, hreadE⟩ := exists_w32Bytes_eq cfg.wordOrder32 m.e
  have hpayload : measPayload cfg.wordOrder32 m alarmWord =
      [highByte m.v, lowByte m.v, i0, i1, i2, i3, p0, p1, p2, p3, e0, e1, e2, e3, highByte m.f, lowByte m.f,
        highByte m.pf, lowByte m.pf, highByte alarmWord, lowByte alarmWord] := by
    unfold measPayload
    rw [hlayI, hlayP, hlayE]
    rfl
  rw [hpayload]
  change some ({
    v := be16 (highByte m.v) (lowByte m.v)
    i := w32 cfg.wordOrder32 i0 i1 i2 i3
    p := w32 cfg.wordOrder32 p0 p1 p2 p3
    e := w32 cfg.wordOrder32 e0 e1 e2 e3
    f := be16 (highByte m.f) (lowByte m.f)
    pf := be16 (highByte m.pf) (lowByte m.pf)
    alarm := be16 (highByte alarmWord) (lowByte alarmWord) != 0 } : Measurement) = _
  simp only [be16_highByte_lowByte, hreadI, hreadP, hreadE, bne_eq_decide_ne]

theorem be16_eq_zero_iff (x y : Byte) : be16 x y = 0 ↔ x = 0 ∧ y = 0 := by
  simp only [← BitVec.toNat_inj, toNat_be16, BitVec.ofNat_eq_ofNat, BitVec.toNat_ofNat, Nat.zero_mod,
    Nat.add_eq_zero_iff, Nat.mul_eq_zero, OfNat.ofNat_ne_zero, false_or]

/-- Settles O28: the alarm word is zero only where both its bytes are, which no byte order changes. -/
theorem alarmExactInEitherByteOrder : Obligations.AlarmExactInEitherByteOrder := by
  intro cfg r m h hm
  obtain ⟨f, rfl⟩ := exists_ofFn_of_length h
  have hbe : m.alarm = true ↔ be16 (f 21) (f 22) ≠ 0 := by
    rw [← Option.some.inj ((decodeMeas?_ofFn cfg f).symm.trans hm)]
    exact decide_eq_true_iff
  have hswap : be16 (f 21) (f 22) = 0 ↔ be16 (f 22) (f 21) = 0 := by
    rw [be16_eq_zero_iff, be16_eq_zero_iff, and_comm]
  exact ⟨hbe, hbe.trans (not_congr hswap)⟩

/-- Settles O29: DECODE_THR names the two bytes it reads. -/
theorem thresholdReadsItsTwoBytes : Obligations.ThresholdReadsItsTwoBytes := by
  intro r h
  obtain ⟨f, rfl⟩ := exists_ofFn_of_length h
  rfl

/-- A count over its scale is exact, and grows with the count. -/
theorem div_scale_exact {count largest scale : Rat} (hs : 0 < scale) (hc : count ≤ largest) :
    count / scale * scale = count ∧ count / scale ≤ largest / scale :=
  ⟨div_mul_cancel₀ count hs.ne', div_le_div_of_nonneg_right hc hs.le⟩

/-- Settles O30: every quantity is a raw count of 16 or 32 bits over a positive scale. -/
theorem quantitiesAreExact : Obligations.QuantitiesAreExact := by
  intro m
  have hhalf (x : Half) : (x.toNat : Rat) ≤ 65535 := by exact_mod_cast Nat.le_of_lt_succ x.isLt
  have hlong (x : Long) : (x.toNat : Rat) ≤ 4294967295 := by exact_mod_cast Nat.le_of_lt_succ x.isLt
  have hten : (0 : Rat) < 10 := by norm_num
  have hhundred : (0 : Rat) < 100 := by norm_num
  have hthousand : (0 : Rat) < 1000 := by norm_num
  exact ⟨div_scale_exact hten (hhalf m.v), div_scale_exact hthousand (hlong m.i), div_scale_exact hten (hlong m.p),
    ⟨rfl, hlong m.e, (div_scale_exact hthousand (hlong m.e)).1⟩,
    div_scale_exact hten (hhalf m.f), div_scale_exact hhundred (hhalf m.pf)⟩

/-! ### The operations: legal addresses (R160) and commits (R132, R156, R162, R166, R169, R172) -/

/-- Settles O36: outside the range are zero and what lies above its upper end. -/
theorem legalAddressRange : Obligations.LegalAddressRange := by
  intro x
  have hrange (cfg : Cfg) : legalAddr cfg x = true ↔ cfg.addrMin.toNat ≤ x.toNat ∧ x.toNat ≤ cfg.addrMax.toNat :=
    decide_eq_true_iff
  have hdefault : legalAddr Cfg.default x = true ↔ 0x01 ≤ x.toNat ∧ x.toNat ≤ 0xF7 := hrange Cfg.default
  have habove : 0xF7 < x.toNat ↔ (0x00F8 ≤ x.toNat ∧ x.toNat ≤ 0x00FF) ∨ 0x00FF < x.toNat :=
    ⟨fun h => (le_or_gt x.toNat 0xFF).imp_left (⟨h, ·⟩), (·.elim And.left (lt_trans (by decide)))⟩
  refine ⟨hdefault, ?illegal, hrange⟩
  case illegal =>
    rw [← Bool.not_eq_true, hdefault, not_and_or, not_le, not_le, Nat.lt_one_iff, habove, ← BitVec.toNat_inj]
    rfl

/-- In COMPLETE the engine's step is the commit, then the common end of a REPORT step (R132). -/
theorem engineStep_of_commit {s s1 : State} (hf : s.fsm = .complete) (hc : commit s = some s1) :
    engineStep s = .next (s1.report .ok) := by
  rw [engineStep_complete hf]
  unfold reportComplete
  rw [hc]

theorem commit_setaddr {s : State} (ho : s.op = .setaddr) : commit s = some (s.setDevAddr (lowByte s.arg)) := by
  unfold commit
  rw [ho]
  rfl

/-- Where the engine's own step changes `dev_addr`, it is SETADDR's REPORT step, which writes the latched address. -/
theorem engineStep_devAddr {s t : State} (h : engineStep s = .next t) (hne : t.devAddr ≠ s.devAddr) :
    s.fsm = .complete ∧ s.op = .setaddr ∧ t.devAddr = lowByte s.arg := by
  obtain ⟨_, _, haddr, _⟩ := engineStep_outputs h
  obtain ⟨hf, ho, _, _⟩ := haddr hne
  cases (engineStep_of_commit hf (commit_setaddr ho)).symm.trans h
  exact ⟨hf, ho, rfl⟩

/-- Settles O46: the commit of SETADDR writes it; a command word never does, and a reset may. -/
theorem setaddrCommitsAddress : Obligations.SetaddrCommitsAddress := by
  refine ⟨fun s hf ho => engineStep_of_commit hf (commit_setaddr ho), fun s t h hne => ?_⟩
  have houtputs : t.outputs ≠ s.outputs := fun heq => hne (congrArg (fun (_, _, addr, _) => addr) heq)
  rcases step_cases h with
    ⟨_, he⟩ | ⟨rest, _, he⟩ | ⟨rest, hp, _⟩ | ⟨w, rest, _, hw⟩ | ⟨w, rest, _, _, hw⟩ | ⟨w, rest, _, _, he⟩
  · exact .inr (engineStep_devAddr he hne)
  · exact .inr (engineStep_devAddr (s := s.setPort rest) he hne)
  · exact .inl ⟨rest, hp⟩
  · exact absurd (runWord_outputs hw) houtputs
  · exact absurd (runWord_outputs hw) houtputs
  · exact .inr (engineStep_devAddr he hne)

/-- A buffer that holds exactly `n` bytes is read whole (R43). -/
theorem State.rxBytes?_whole {s : State} {n : Nat} (hcnt : s.rxCnt = n) (hbuf : s.rxBuf.length = n) :
    s.rxBytes? n = some s.rxBuf :=
  State.rxBytes?_eq_some.2 ⟨⟨hcnt.ge, hbuf.ge⟩, List.take_of_length_le hbuf.le⟩

/-- Settles O45: COMMIT(READ) reads the whole buffer and writes the decoded measurement. -/
theorem readCommitsMeasurements : Obligations.ReadCommitsMeasurements := by
  intro s m hf ho hcnt hbuf hm
  have hc : commit s = some (s.setMeas m) := by
    unfold commit commitRead
    simp only [ho, State.rxBytes?_whole hcnt hbuf, hm]
  exact engineStep_of_commit hf hc

/-- Settles O48: COMMIT(GETTHR) reads the whole buffer and writes the half that its bytes 3 and 4 are. -/
theorem getthrCommitsThreshold : Obligations.GetthrCommitsThreshold := by
  rintro s _ h hf ho hcnt rfl
  have hc : commit s = some (s.setThr (be16 s.rxBuf[3] s.rxBuf[4])) := by
    unfold commit commitGetthr
    simp only [ho, State.rxBytes?_whole hcnt h, thresholdReadsItsTwoBytes s.rxBuf h]
  exact engineStep_of_commit hf hc

-- Memory: this one waits for the proofs before it, so that none of them is still being elaborated when the text ends.
set_option Elab.async false in
/-- Settles O47: COMMIT(RSTE) and COMMIT(SETTHR) leave the state as it is. -/
theorem rsteAndSetthrCommitNothing : Obligations.RsteAndSetthrCommitNothing := by
  intro s hf ho
  have hc : commit s = some s := by
    unfold commit
    rcases ho with ho | ho <;> rw [ho] <;> rfl
  exact engineStep_of_commit hf hc

end Sys2Proof.Machine
end

section
/-! PROOFS of family `60_exceptions.md`: a command offered outside IDLE (O38), and the codes of `result` (O51). -/

namespace Sys2Proof.Machine

/-! ### A command outside IDLE (R188) -/

/-- Settles O38: the step of each command is ACCEPT, which outside IDLE looks at neither the operation nor its operand. -/
theorem busyCommandOnlySetsBusyFault : Obligations.BusyCommandOnlySetsBusyFault := by
  intro s tmo arg hbusy
  have haccept (op : Op) : accept op tmo arg s = .next { s with busyFault := true } := accept_busy hbusy
  exact ⟨haccept .read, haccept .setaddr, haccept .rste, haccept .setthr, haccept .getthr⟩

/-! ### The codes of `result` (R181) -/

theorem ErrKind.code_lt (k : ErrKind) : k.code.toNat < 7 := by cases k <;> decide

/-- The codes 7 to 14 are no result's. -/
theorem Result.code_lt_or_eq (r : Result) : r.code.toNat < 7 ∨ r.code.toNat = 15 := by
  cases r with
  | ok => exact .inl (by decide)
  | error k => exact .inl k.code_lt
  | none => exact .inr rfl

/-- Settles O51: the codes are the definition's, and only NONE's is above 6. -/
theorem resultCodes : Obligations.ResultCodes :=
  ⟨rfl, rfl, rfl, rfl, rfl, rfl, rfl, rfl, Result.code_lt_or_eq⟩

end Sys2Proof.Machine
end

section
/-! PROOFS of family `70_reset_and_hazards.md`: the values reset leaves (O1), and a reset at any time (O2). -/

namespace Sys2Proof.Machine

/-! ### The values reset leaves (R210) -/

/-- Settles O1: each is the field's value in `State.resetWith`, and 0xF8 the adopted `Cfg.RESET_ADDR`. -/
theorem resetLeavesSpecifiedValues : Obligations.ResetLeavesSpecifiedValues :=
  ⟨⟨rfl, rfl⟩, fun _ => ⟨rfl, rfl, rfl, rfl, rfl, rfl⟩⟩

/-! ### A reset at any time (R211, R212) -/

/-- A reset event runs `applyReset` in every state, whatever the engine is at. -/
theorem step_of_reset {s : State} {rest : List CallerEvent} (hp : s.port = .reset :: rest) :
    step s = applyReset (s.setPort rest) := by
  simp only [step, interfaceStep, hp]

theorem applyReset_of_admitted {s : State} (h : Admitted s.cfg) : applyReset s = .next s.resetEngine :=
  if_pos h

theorem applyReset_of_not_admitted {s : State} (h : ¬ Admitted s.cfg) : applyReset s = .refused .illegalResetAddr :=
  if_neg h

/-- Settles O2: the step is `applyReset`, which resets the engine where R211 admits the configuration and refuses
elsewhere; taking the event off the port leaves the configuration. -/
theorem resetAbandonsTransaction : Obligations.ResetAbandonsTransaction := by
  intro s rest hp
  rw [step_of_reset hp]
  constructor
  · intro haddr
    have hadm : Admitted (s.setPort rest).cfg := resetAddrOk_iff.2 haddr
    exact ⟨_, applyReset_of_admitted hadm, rfl⟩
  · rintro ⟨hgeneral, hlegal⟩
    have hadm : ¬ Admitted (s.setPort rest).cfg := fun h =>
      (resetAddrOk_iff.1 h).elim hgeneral (ne_true_of_eq_false hlegal)
    exact applyReset_of_not_admitted hadm

end Sys2Proof.Machine
end

section
/-! PROOFS of family `other`: the reserved codes while the engine is busy (O11). -/

namespace Sys2Proof.Machine

/-- Settles O11: `exec` refuses a reserved code in every state (`exec_of_reserved`), so busy or not makes no difference. -/
theorem reservedCodesRefusedWhileBusy : Obligations.ReservedCodesRefusedWhileBusy := fun s _ _ _ =>
  ⟨exec_of_reserved s rfl (by decide), exec_of_reserved s rfl (by decide), exec_of_reserved s rfl (by decide)⟩

end Sys2Proof.Machine
end

section
/-! PROOFS of `41_frame_codec.md`: FRAME_ENCODE (O21) and FRAME_VALIDATE (O22, O23), run alone. -/

namespace Sys2Proof.Machine

-- As in the section of `30_encoding.md`: one proof elaborated after another takes less of the check's memory.
set_option Elab.async false

/-! ### FRAME_ENCODE and FRAME_VALIDATE run alone (R100, R102 to R107) -/

theorem exec_frameValidate (r : List Byte) (n a : Byte) (s : State) :
    exec (.frameValidate r n a) s = .next (s.returned (.verdict (frameValidate s.cfg r n.toNat a))) := rfl

/-- Settles O21: the frame is its first bytes with their checksum appended, low byte first (R95). -/
theorem frameEncodeReturnsFrame : Obligations.FrameEncodeReturnsFrame :=
  fun _ _ _ _ => rfl

/-- A wrong length is reported before anything else is checked (R103). -/
theorem frameValidate_of_length_ne (cfg : Cfg) {r : List Byte} {n : Nat} (a : Byte) (h : r.length ≠ n) :
    frameValidate cfg r n a = .err .unexpectedResponse := if_pos h

/-- At the right length the other two checks decide (R102). -/
theorem frameValidate_of_length (cfg : Cfg) {r : List Byte} {n : Nat} (a : Byte) (h : r.length = n) :
    frameValidate cfg r n a = checksVerdict cfg.checkOrder (crcVerify cfg r) (addrOk cfg r a) := if_neg (not_not.2 h)

/-- The address check fails only for a request sent to one address and answered by another (R104). -/
theorem addrOk_cons_eq_false (cfg : Cfg) (b : Byte) (r : List Byte) (a : Byte) :
    addrOk cfg (b :: r) a = false ↔ a ≠ cfg.addrGeneral ∧ b ≠ a := by
  simp only [addrOk, Bool.or_eq_false_iff, beq_eq_false_iff_ne]

/-- Settles O22: the length alone decides where it is wrong; elsewhere the checks do, in either order. -/
theorem frameValidateChecksInOrder : Obligations.FrameValidateChecksInOrder := by
  intro s b r n a
  simp only [exec_frameValidate]
  refine ⟨fun hlen => ?wrong, fun hlen => ?right⟩
  case wrong => rw [frameValidate_of_length_ne s.cfg a hlen]; rfl
  case right =>
    rw [frameValidate_of_length s.cfg a hlen]
    unfold checksVerdict
    simp only [Bool.not_eq_true', addrOk_cons_eq_false]
    cases s.cfg.checkOrder <;> rfl

/-- An empty response has no checksum to verify, so it is never valid (R94, R102). -/
theorem frameValidate_nil (cfg : Cfg) (n : Nat) (a : Byte) :
    ∃ k, frameValidate cfg [] n a = .err k ∧ (n ≠ 0 → k = .unexpectedResponse) ∧
      (k = .unexpectedResponse ∨ k = .checksumMismatch) := by
  by_cases hn : n = 0
  · cases h : frameValidate cfg [] n a with
    | ok => obtain ⟨_, hcrc, _⟩ := frameValidate_ok.1 h; cases hcrc
    | err k => exact ⟨k, rfl, absurd hn, (frameValidate_err h).symm.imp And.left And.left⟩
  · exact ⟨_, frameValidate_of_length_ne cfg a (Ne.symm hn), fun _ => rfl, .inl rfl⟩

/-- Settles O23: the verdict on no bytes, at any expected length. -/
theorem emptyResponseNeverValid : Obligations.EmptyResponseNeverValid := by
  intro s n a
  obtain ⟨k, hk, hlen, hkind⟩ := frameValidate_nil s.cfg n.toNat a
  refine ⟨k, ?verdict, fun hn => hlen fun h0 => hn (BitVec.eq_of_toNat_eq h0), hkind⟩
  case verdict => rw [exec_frameValidate, hk]; rfl

end Sys2Proof.Machine
end

section
/-! PROOFS of the steps of `42_transaction.md`: ACCEPT of an illegal address (O37), and SEND, POLL, VALIDATE and the
REPORT step from FAILED (O41, O42, O44, O49), one equation per answer of the environment. -/

namespace Sys2Proof.Machine

-- As in the section of `30_encoding.md`: one proof elaborated after another takes less of the check's memory.
set_option Elab.async false

/-! ### An illegal operand (R121, R161) -/

/-- Settles O37: ACCEPT latches the command, and the address fails the operand check. -/
theorem illegalAddressRejected : Obligations.IllegalAddressRejected := by
  intro s tmo arg hi harg
  have hillegal : legalAddr s.cfg arg = false :=
    decide_eq_false fun ⟨hmin, hmax⟩ => harg.elim hmin.not_gt hmax.not_gt
  exact accept_idle_bad (op := .setaddr) hi hillegal

/-! ### The SEND step (R123) -/

/-- A taken byte goes on the line, and the last one leads to RECEIVING. -/
theorem engineStep_write_ok {s : State} {b : Byte} {ws : List WriteAnswer} (hf : s.fsm = .sending)
    (hstuck : s.writeStuck = false) (hb : s.txByte? = some b) (hw : s.writes = .ok :: ws) :
    engineStep s = .next { s with
      writes := ws, line := s.line ++ [b], txIdx := s.txIdx + 1,
      fsm := if s.txIdx + 1 = s.txLen then .receiving else .sending } := by
  rw [engineStep_sending hf hstuck]
  unfold send
  rw [hb, State.takeWrite_scripted hw, ← hf]
  by_cases hlast : s.txIdx + 1 = s.txLen
  · rw [if_pos hlast]; exact congrArg Host.Outcome.next (if_pos hlast)
  · rw [if_neg hlast]; exact congrArg Host.Outcome.next (if_neg hlast)

theorem engineStep_write_err {s : State} {b : Byte} {ws : List WriteAnswer} (hf : s.fsm = .sending)
    (hstuck : s.writeStuck = false) (hb : s.txByte? = some b) (hw : s.writes = .err :: ws) :
    engineStep s = .next { s with writes := ws, fsm := .failed, err := .transportWrite } := by
  rw [engineStep_sending hf hstuck]
  unfold send
  rw [hb, State.takeWrite_scripted hw]
  rfl

/-- Settles O41: the byte at the index is there to be written, and the answer decides. -/
theorem sendStepWritesNextByte : Obligations.SendStepWritesNextByte := by
  intro s b ws hf hstuck hidx hbyte
  have hb : s.txByte? = some b := State.txByte?_eq_some.2 ⟨hidx, hbyte⟩
  exact ⟨engineStep_write_ok hf hstuck hb, engineStep_write_err hf hstuck hb⟩

/-! ### The POLL step (R125, R128) -/

section Poll

variable {s : State} {ps : List PollAnswer} (hf : s.fsm = .receiving) (hc : s.rxCnt < s.rxLen)
include hf hc

/-- A byte is appended to what the buffer holds, within the buffer's 25 (R26). -/
theorem engineStep_poll_byte {b : Byte} (hmax : s.rxLen ≤ Config.rxMax) (hbuf : s.rxBuf.length = s.rxCnt)
    (hp : s.polls = .byte b :: ps) :
    engineStep s = .next { s with polls := ps, rxBuf := s.rxBuf ++ [b], rxCnt := s.rxCnt + 1 } := by
  have hstore : State.storeRx? { s with polls := ps } b =
      some { s with polls := ps, rxBuf := s.rxBuf ++ [b], rxCnt := s.rxCnt + 1 } :=
    State.storeRx?_eq_some.2 ⟨⟨hc.trans_le hmax, hbuf.ge⟩, by rw [List.take_of_length_le hbuf.le]⟩
  rw [engineStep_polling hf hc]
  unfold poll
  rw [State.takePoll_scripted hp]
  dsimp only
  rw [hstore]

/-- Without a timeout specification a would-block answer is all that is consumed (R130). -/
theorem engineStep_poll_silent (hp : s.polls = .wouldBlock :: ps) (ht : s.tmo = false) :
    engineStep s = .next { s with polls := ps } := by
  rw [engineStep_polling hf hc]
  unfold poll
  rw [State.takePoll_scripted hp]
  exact if_neg (ne_true_of_eq_false ht)

/-- With one, the timer is asked, and an elapsed deadline fails the transaction. -/
theorem engineStep_poll_timed {e : Bool} {ts : List Bool} (hp : s.polls = .wouldBlock :: ps) (ht : s.tmo = true)
    (htimer : s.timer = e :: ts) :
    engineStep s = .next (if e then { s with polls := ps, timer := ts, fsm := .failed, err := .timeout }
      else { s with polls := ps, timer := ts }) := by
  have htake : State.takeTimer { s with polls := ps } = (e, { s with polls := ps, timer := ts }) :=
    State.takeTimer_scripted htimer
  rw [engineStep_polling hf hc]
  unfold poll
  rw [State.takePoll_scripted hp]
  dsimp only
  rw [if_pos ht, htake]
  cases e <;> rfl

theorem engineStep_poll_err (hp : s.polls = .err :: ps) :
    engineStep s = .next { s with polls := ps, fsm := .failed, err := .transportRead } := by
  rw [engineStep_polling hf hc]
  unfold poll
  rw [State.takePoll_scripted hp]
  rfl

end Poll

/-- Settles O42: one equation per answer of the transport, and after a would-block answer per answer of the timer. -/
theorem pollStepTakesOneAnswer : Obligations.PollStepTakesOneAnswer := by
  intro s ps ts hf hc hmax hbuf
  exact ⟨fun b hp => engineStep_poll_byte hf hc hmax hbuf hp, engineStep_poll_timed hf hc (e := true),
    engineStep_poll_timed hf hc (e := false), engineStep_poll_silent hf hc, engineStep_poll_err hf hc⟩

/-! ### The VALIDATE step (R127) and the REPORT step from FAILED (R133) -/

/-- Settles O44: the whole buffer is read, and its verdict decides. -/
theorem validateStepDecides : Obligations.ValidateStepDecides := by
  intro s hf hc hbuf
  rw [engineStep_full hf hc]
  unfold validate
  rw [State.rxBytes?_whole hc (hbuf.trans hc)]
  dsimp only
  exact ⟨fun h => by rw [h]; rfl, fun k h => by rw [h]; rfl⟩

/-- Settles O49: in FAILED the engine's step is `State.reportFailed`. -/
theorem failedReportPostsError : Obligations.FailedReportPostsError := fun _ => engineStep_failed

end Sys2Proof.Machine
end

section
/-! PROOFS of the runs of `42_transaction.md`: a transaction that ends in TransportWrite (O58), in Timeout (O57) or OK
(O56), and a silent transport (O59). A transaction's run is put together from its stages: the ACCEPT step with the SEND
steps after it, the POLL steps, and the steps that end it. -/

namespace Sys2Proof.Machine

-- As in the section of `30_encoding.md`: one proof elaborated after another takes less of the check's memory.
set_option Elab.async false

/-! ### The ACCEPT step and the SEND steps (R121, R123) -/

/-- While the caller waits, a step in any other state than IDLE is the engine's own. -/
theorem step_waiting {s : State} {q : Fsm} (hp : HeldBack s.port) (hf : s.fsm = q) (hq : q ≠ .idle) :
    step s = engineStep s :=
  step_heldBack hp (hf ▸ hq)

/-- A word that spells an operation is run as its ACCEPT step (R60, R61). -/
theorem exec_commandWord (op : Op) (tmo : Bool) (arg : Half) (s : State) :
    exec (decodeCommand (commandWord tmo op.code arg)) s = accept op tmo arg s := by
  have hexec (i : Instr) (hi : encode i = some (commandWord tmo op.code arg)) :
      exec (decodeCommand (commandWord tmo op.code arg)) s = exec i s := by
    rw [decodeEncodeAgree i _ hi]
  cases op with
  | read => exact hexec (.read tmo arg) rfl
  | setaddr => exact hexec (.setaddr tmo arg) rfl
  | rste => exact hexec (.rste tmo arg) rfl
  | setthr => exact hexec (.setthr tmo arg) rfl
  | getthr => exact hexec (.getthr tmo arg) rfl

/-- Where the transactions below begin: the engine is in IDLE, its caller offers a legal command and then waits. -/
structure State.Offers (s : State) (op : Op) (tmo : Bool) (arg : Half) (rest : List CallerEvent) : Prop where
  idle : s.fsm = .idle
  notStuck : s.writeStuck = false
  port : s.port = .offerIdle (commandWord tmo op.code arg) :: rest
  waits : HeldBack rest
  legal : argOk s.cfg op arg = true

/-- The state after the ACCEPT step of the offered command and `k` bytes taken, the transport left with `ws`. -/
def State.wrote (s : State) (op : Op) (tmo : Bool) (arg : Half) (rest : List CallerEvent) (k : Nat)
    (ws : List WriteAnswer) : State :=
  { s.accepted op tmo arg (request s.cfg op arg s.devAddr) (txLenOf op) (rxLenOf op) with
    port := rest
    writes := ws
    line := s.line ++ (request s.cfg op arg s.devAddr).take k
    txIdx := k
    fsm := if k = txLenOf op then .receiving else .sending }

section Transaction

variable {s : State} {op : Op} {tmo : Bool} {arg : Half} {rest : List CallerEvent}

theorem step_offered (h : s.Offers op tmo arg rest) : step s = .next (s.wrote op tmo arg rest 0 s.writes) := by
  rw [step_of_offerIdle h.port h.idle, exec_commandWord, accept_idle_eq_accepted (s := s.setPort rest) h.idle h.legal]
  unfold State.wrote
  rw [if_neg (txLenOf_pos op).ne, List.take_zero, List.append_nil]
  rfl

/-- After fewer bytes than the request has, the engine is at its next byte. -/
theorem State.wrote_sending {k : Nat} (hk : k < txLenOf op) (ws : List WriteAnswer) :
    (s.wrote op tmo arg rest k ws).fsm = .sending ∧
      ∃ b, (s.wrote op tmo arg rest k ws).txByte? = some b ∧ (request s.cfg op arg s.devAddr)[k]? = some b := by
  have hlen : k < (request s.cfg op arg s.devAddr).length := hk.trans_eq (request_length ..).symm
  have hb := List.getElem?_eq_getElem hlen
  exact ⟨if_neg hk.ne, _, State.txByte?_eq_some.2 ⟨hk, hb⟩, hb⟩

theorem step_wrote {k : Nat} {ws : List WriteAnswer} (h : s.Offers op tmo arg rest) (hk : k < txLenOf op) :
    step (s.wrote op tmo arg rest k (.ok :: ws)) = .next (s.wrote op tmo arg rest (k + 1) ws) := by
  obtain ⟨hf, b, hbyte, hb⟩ := State.wrote_sending (s := s) (tmo := tmo) (rest := rest) hk (.ok :: ws)
  have hline : (request s.cfg op arg s.devAddr).take (k + 1) = (request s.cfg op arg s.devAddr).take k ++ [b] := by
    rw [List.take_add_one, hb]; rfl
  rw [step_waiting h.waits hf nofun, engineStep_write_ok hf h.notStuck hbyte rfl]
  unfold State.wrote
  rw [hline, ← List.append_assoc]
  rfl

/-- The command is accepted and the transport takes `k` bytes of its request. -/
theorem run_wrote {k : Nat} {ws : List WriteAnswer} (h : s.Offers op tmo arg rest) (hk : k ≤ txLenOf op)
    (hw : s.writes = List.replicate k WriteAnswer.ok ++ ws) : run (k + 1) s = .next (s.wrote op tmo arg rest k ws) := by
  induction k generalizing ws with
  | zero =>
    have hw : s.writes = ws := hw
    rw [run_succ 0 (step_offered h), run_zero, hw]
  | succ k ih =>
    have hw : s.writes = List.replicate k WriteAnswer.ok ++ (WriteAnswer.ok :: ws) := by
      rw [hw, List.replicate_succ', List.append_assoc, List.singleton_append]
    rw [run_add (k + 1) 1 (ih (Nat.le_of_lt hk) hw), run_succ 0 (step_wrote h hk), run_zero]

end Transaction

/-- A caller that waits sees a failed transaction reported at once (R133). -/
theorem step_failed {s : State} (hf : s.fsm = .failed) (hp : HeldBack s.port) : step s = .next s.reportFailed := by
  rw [step_waiting hp hf nofun, engineStep_failed hf]

/-- Settles O58: after `k` bytes the next write fails, and the REPORT step follows. -/
theorem writeErrorLeavesFragment : Obligations.WriteErrorLeavesFragment := by
  intro s op tmo arg k ws rest hidle hstuck hport hwaits hlegal hk hw
  have h : s.Offers op tmo arg rest := ⟨hidle, hstuck, hport, hwaits, hlegal⟩
  obtain ⟨hf, b, hbyte, _⟩ := State.wrote_sending (s := s) (tmo := tmo) (rest := rest) hk (.err :: ws)
  have hfails := (step_waiting hwaits hf nofun).trans (engineStep_write_err hf hstuck hbyte rfl)
  have hrun : run (k + 1 + 2) s = .next
      { s.ended op tmo arg k (.error .transportWrite) rest ws s.polls s.timer with err := .transportWrite } := by
    rw [run_add (k + 1) 2 (run_wrote h hk.le hw), run_succ 1 hfails, run_succ 0 (step_failed rfl hwaits), run_zero]
    rfl
  exact claimedRun_of_run hrun

/-! ### The POLL steps (R125, R128) -/

/-- The bytes that poll answers deliver. -/
abbrev delivered (p : List PollAnswer) : List Byte := p.filterMap PollAnswer.byte?

/-- The timer's answers to the polls `p`, at none of which the deadline has elapsed. -/
def notElapsed (tmo : Bool) (p : List PollAnswer) : List Bool :=
  if tmo then List.replicate (wouldBlocks p) false else []

theorem notElapsed_append (tmo : Bool) (p q : List PollAnswer) :
    notElapsed tmo (p ++ q) = notElapsed tmo p ++ notElapsed tmo q := by
  unfold notElapsed wouldBlocks
  rw [List.count_append, List.replicate_add]
  cases tmo <;> rfl

/-- The state after polls that delivered `r`, with `ps` and `ts` left of the scripts. -/
def State.polled (s : State) (r : List Byte) (ps : List PollAnswer) (ts : List Bool) : State :=
  { s with polls := ps, timer := ts, rxBuf := s.rxBuf ++ r, rxCnt := s.rxCnt + r.length }

theorem State.polled_nil (s : State) (ps : List PollAnswer) (ts : List Bool) :
    s.polled [] ps ts = { s with polls := ps, timer := ts } := by
  unfold State.polled
  rw [List.append_nil]
  rfl

theorem State.polled_polled (s : State) (r r' : List Byte) (ps ps' : List PollAnswer) (ts ts' : List Bool) :
    (s.polled r ps ts).polled r' ps' ts' = s.polled (r ++ r') ps' ts' := by
  unfold State.polled
  rw [List.length_append, ← Nat.add_assoc, ← List.append_assoc]

/-- The engine awaits a response that fits the buffer, and its caller waits. -/
structure State.Polling (s : State) : Prop where
  receiving : s.fsm = .receiving
  fits : s.rxLen ≤ Config.rxMax
  filled : s.rxBuf.length = s.rxCnt
  waits : HeldBack s.port

theorem State.Polling.step_eq {s : State} (h : s.Polling) : step s = engineStep s :=
  step_waiting h.waits h.receiving nofun

theorem State.Polling.polled {s : State} (h : s.Polling) (r : List Byte) (ps : List PollAnswer) (ts : List Bool) :
    (s.polled r ps ts).Polling :=
  ⟨h.receiving, h.fits, List.length_append.trans (congrArg (· + r.length) h.filled), h.waits⟩

/-- One poll that is no read error, before the response is whole. -/
theorem step_polled {s : State} {a : PollAnswer} {ps : List PollAnswer} {ts : List Bool} (h : s.Polling)
    (hc : s.rxCnt < s.rxLen) (ha : a ≠ .err) (hp : s.polls = a :: ps) (ht : s.timer = notElapsed s.tmo [a] ++ ts) :
    step s = .next (s.polled (delivered [a]) ps ts) := by
  rw [h.step_eq]
  cases a with
  | byte b =>
    have htimer : s.timer = ts := by rw [ht]; cases s.tmo <;> rfl
    rw [engineStep_poll_byte h.receiving hc h.fits h.filled hp, ← htimer]
    rfl
  | wouldBlock =>
    refine Eq.trans ?_ (congrArg Host.Outcome.next (s.polled_nil ps ts).symm)
    by_cases htmo : s.tmo = true
    · have htimer : s.timer = false :: ts := by rw [ht, htmo]; rfl
      exact engineStep_poll_timed h.receiving hc hp htmo htimer
    · have htmo : s.tmo = false := Bool.eq_false_iff.2 htmo
      have htimer : s.timer = ts := by rw [ht, htmo]; rfl
      rw [engineStep_poll_silent h.receiving hc hp htmo, ← htimer]
  | err => exact absurd rfl ha

/-- Polls that end before the response is whole append their bytes, and consume no answers but their own. -/
theorem run_polled {p : List PollAnswer} {s : State} {ps : List PollAnswer} {ts : List Bool} (h : s.Polling)
    (hc : s.rxCnt + (delivered p).length < s.rxLen) (he : PollAnswer.err ∉ p) (hp : s.polls = p ++ ps)
    (ht : s.timer = notElapsed s.tmo p ++ ts) :
    run p.length s = .next (s.polled (delivered p) ps ts) := by
  induction p generalizing s with
  | nil =>
    obtain rfl : s.polls = ps := hp
    obtain rfl : s.timer = ts := by rw [ht]; cases s.tmo <;> rfl
    exact congrArg Host.Outcome.next (s.polled_nil s.polls s.timer).symm
  | cons a p ih =>
    obtain ⟨ha, he⟩ := List.ne_and_not_mem_of_not_mem_cons he
    have hbytes : delivered (a :: p) = delivered [a] ++ delivered p := List.filterMap_append (l := [a])
    rw [hbytes, List.length_append, ← Nat.add_assoc] at hc
    have ht : s.timer = notElapsed s.tmo [a] ++ (notElapsed s.tmo p ++ ts) := by
      rw [ht, ← List.append_assoc, ← notElapsed_append, List.singleton_append]
    have hlt : s.rxCnt < s.rxLen := (Nat.le_add_right_of_le (Nat.le_add_right _ _)).trans_lt hc
    have hstep := step_polled (ps := p ++ ps) h hlt ha.symm hp ht
    rw [List.length_cons, run_succ _ hstep, ih (h.polled ..) hc he rfl rfl, State.polled_polled, hbytes]

section Transaction

variable {s : State} {op : Op} {tmo : Bool} {arg : Half} {rest : List CallerEvent}

/-- The response is awaited once the whole request is on the line. -/
theorem State.Offers.polling (h : s.Offers op tmo arg rest) (ws : List WriteAnswer) :
    (s.wrote op tmo arg rest (txLenOf op) ws).Polling :=
  ⟨if_pos rfl, rxLenOf_le_rxMax op, rfl, h.waits⟩

/-- The command is accepted, its whole request is written, and polls follow that end before the response is whole. -/
theorem run_wrote_polled {p ps : List PollAnswer} {ws : List WriteAnswer} {ts : List Bool}
    (h : s.Offers op tmo arg rest) (hw : s.writes = List.replicate (txLenOf op) WriteAnswer.ok ++ ws)
    (hc : (delivered p).length < rxLenOf op) (he : PollAnswer.err ∉ p) (hp : s.polls = p ++ ps)
    (ht : s.timer = notElapsed tmo p ++ ts) :
    run (txLenOf op + 1 + p.length) s =
      .next ((s.wrote op tmo arg rest (txLenOf op) ws).polled (delivered p) ps ts) := by
  rw [run_add _ _ (run_wrote h le_rfl hw)]
  exact run_polled (h.polling ws) ((Nat.zero_add _).trans_lt hc) he hp ht

end Transaction

/-- Settles O57: the would-block answer after the polls meets an elapsed deadline, and the REPORT step follows. -/
theorem deadlineEndsTransaction : Obligations.DeadlineEndsTransaction := by
  intro s op arg p ps ws ts rest hidle hstuck hport hwaits hlegal hw hp he hc ht
  have h : s.Offers op true arg rest := ⟨hidle, hstuck, hport, hwaits, hlegal⟩
  have hpolling := (h.polling ws).polled (delivered p) (.wouldBlock :: ps) (true :: ts)
  have hfails := hpolling.step_eq.trans
    (engineStep_poll_timed hpolling.receiving ((Nat.zero_add _).trans_lt hc) rfl rfl rfl)
  have hrun : run (txLenOf op + 1 + p.length + 2) s = .next
      { s.ended op true arg (txLenOf op) (.error .timeout) rest ws ps ts with err := .timeout } := by
    rw [run_add _ 2 (run_wrote_polled h hw hc he hp ht), run_succ 1 hfails, run_succ 0 (step_failed rfl hwaits),
      run_zero]
    rfl
  rw [Nat.add_right_comm _ 1] at hrun
  exact claimedRun_of_run hrun

/-! ### A whole valid response (R127, R132) -/

/-- A whole response in the buffer commits the outputs of its operation. -/
theorem commit_whole {s : State} {op : Op} (ho : s.op = op) (hcnt : s.rxCnt = rxLenOf op)
    (hbuf : s.rxBuf.length = rxLenOf op) : commit s = some (s.withOutputs op s.arg s.rxBuf) := by
  have hread := State.rxBytes?_whole hcnt hbuf
  unfold commit
  rw [ho]
  cases op with
  | read =>
    obtain ⟨m, hm⟩ := decodeMeas?_of_length s.cfg hbuf
    have hread : s.rxBytes? 25 = some s.rxBuf := hread
    simp only [commitRead, State.withOutputs, hread, hm]
    rfl
  | getthr =>
    obtain ⟨v, hv⟩ := decodeThr?_of_length hbuf
    have hread : s.rxBytes? 7 = some s.rxBuf := hread
    simp only [commitGetthr, State.withOutputs, hread, hv]
    rfl
  | setaddr | rste | setthr => rfl

theorem State.report_withOutputs (s : State) (q : Fsm) (op : Op) (arg : Half) (r : List Byte) (res : Result) :
    ((s.enter q).withOutputs op arg r).report res = (s.report res).withOutputs op arg r := by
  cases op <;> rfl

/-- A whole valid response: the VALIDATE step passes, and the REPORT step commits it. -/
theorem run_valid {s : State} (h : s.Polling) (hc : s.rxCnt = s.rxLen) (hlen : s.rxLen = rxLenOf s.op)
    (hv : frameValidate s.cfg s.rxBuf s.rxLen s.devAddr = .ok) :
    run 2 s = .next ((s.report .ok).withOutputs s.op s.arg s.rxBuf) := by
  have hcnt : s.rxCnt = rxLenOf s.op := hc.trans hlen
  have hpasses : step s = .next (s.enter .complete) :=
    h.step_eq.trans ((validateStepDecides s h.receiving hc h.filled).1 hv)
  have hcommits := (step_waiting (s := s.enter .complete) h.waits rfl nofun).trans
    (engineStep_of_commit rfl (commit_whole rfl hcnt (h.filled.trans hcnt)))
  rw [run_succ 1 hpasses, run_succ 0 hcommits, run_zero, State.report_withOutputs]
  rfl

/-- Answers that deliver a response: some that leave it incomplete, and its last byte. -/
theorem Delivers.exists_last {p : List PollAnswer} {r : List Byte} (h : Delivers p r) :
    ∃ (q : List PollAnswer) (b : Byte),
      p = q ++ [PollAnswer.byte b] ∧ r = delivered q ++ [b] ∧ PollAnswer.err ∉ q := by
  obtain ⟨hr, he, b, hlast⟩ := h
  obtain ⟨q, rfl⟩ := List.getLast?_eq_some_iff.1 hlast
  have hbytes : delivered (q ++ [PollAnswer.byte b]) = delivered q ++ [b] := List.filterMap_append
  have hq : PollAnswer.err ∉ q := fun hmem => he (List.mem_append_left _ hmem)
  exact ⟨q, b, rfl, hr.symm.trans hbytes, hq⟩

/-- The command is accepted, its whole request is written, and its whole response is delivered. -/
theorem run_wrote_delivered {s : State} {op : Op} {tmo : Bool} {arg : Half} {rest : List CallerEvent}
    {p ps : List PollAnswer} {r : List Byte} {ws : List WriteAnswer} {ts : List Bool} (h : s.Offers op tmo arg rest)
    (hw : s.writes = List.replicate (txLenOf op) WriteAnswer.ok ++ ws) (hp : s.polls = p ++ ps) (hd : Delivers p r)
    (hlen : r.length = rxLenOf op) (ht : s.timer = notElapsed tmo p ++ ts) :
    run (txLenOf op + 1 + p.length) s = .next ((s.wrote op tmo arg rest (txLenOf op) ws).polled r ps ts) := by
  obtain ⟨q, b, rfl, rfl, he⟩ := hd.exists_last
  have hc : (delivered q).length < rxLenOf op := by
    rw [← hlen, List.length_append]
    exact Nat.lt_succ_self _
  rw [List.append_assoc, List.singleton_append] at hp
  rw [notElapsed_append, List.append_assoc] at ht
  have hpolling := (h.polling ws).polled (delivered q) (.byte b :: ps) (notElapsed tmo [PollAnswer.byte b] ++ ts)
  have hlast := step_polled (a := .byte b) hpolling ((Nat.zero_add _).trans_lt hc) nofun rfl rfl
  rw [List.length_append, List.length_singleton, ← Nat.add_assoc, run_add _ 1 (run_wrote_polled h hw hc he hp ht)]
  rw [run_succ 0 hlast, run_zero, State.polled_polled]
  rfl

/-- Settles O56: the whole response is delivered and valid, so VALIDATE and the REPORT step with its commit follow. -/
theorem transactionCompletes : Obligations.TransactionCompletes := by
  intro s op tmo arg r p ps ws ts rest hidle hstuck hport hwaits hlegal hw hp hd hlen hvalid ht
  have h : s.Offers op tmo arg rest := ⟨hidle, hstuck, hport, hwaits, hlegal⟩
  have hcnt : 0 + r.length = rxLenOf op := (Nat.zero_add _).trans hlen
  have hrun : run (txLenOf op + 1 + p.length + 2) s =
      .next ((s.ended op tmo arg (txLenOf op) .ok rest ws ps ts).withOutputs op arg r) := by
    rw [run_add _ 2 (run_wrote_delivered h hw hp hd hlen ht)]
    exact run_valid ((h.polling ws).polled r ps ts) hcnt rfl hvalid
  rw [Nat.add_right_comm _ 1] at hrun
  exact claimedRun_of_run hrun

/-! ### A silent transport (R130) -/

/-- Outside IDLE a step is the engine's own while the caller pauses or waits; it takes one pause, if there is one. -/
theorem step_of_pauses {s : State} {pauses : Nat} {rest : List CallerEvent}
    (hp : s.port = List.replicate pauses CallerEvent.pause ++ rest) (hwaits : HeldBack rest) (hf : s.fsm ≠ .idle) :
    step s = engineStep (s.setPort (List.replicate (pauses - 1) CallerEvent.pause ++ rest)) := by
  cases pauses with
  | zero =>
    have hp : s.port = rest := hp
    rw [step_heldBack (hp ▸ hwaits) hf]
    exact congrArg engineStep (setPort_self hp).symm
  | succ n => exact step_of_pause hp

/-- Settles O59: each step takes one would-block answer and one pause, by induction on the answers. -/
theorem silenceWithoutTimeoutHangs : Obligations.SilenceWithoutTimeoutHangs := by
  intro s n pauses rest ps hport hwaits hf hc ht hp
  refine claimedRun_of_run ?_
  induction n generalizing s pauses with
  | zero =>
    obtain rfl : s.polls = ps := hp
    exact congrArg Host.Outcome.next (setPort_self hport).symm
  | succ n ih =>
    have hstep := (step_of_pauses hport hwaits (hf ▸ nofun)).trans (engineStep_poll_silent hf hc hp ht)
    have hrest := ih { s.setPort (List.replicate (pauses - 1) CallerEvent.pause ++ rest) with
      polls := List.replicate n PollAnswer.wouldBlock ++ ps } (pauses - 1) rfl hf hc ht rfl
    rw [Nat.sub_right_comm] at hrest
    exact (run_succ n hstep).trans hrest

end Sys2Proof.Machine
end
